-- ==== Sys2Proof/Word.lean ====
section
/-! DEFINITION. The two widths of the machine: an 8-bit byte and a 16-bit word (10_state.md R21 to R26, 20_memory.md R60). -/

namespace Sys2Proof

/-- A byte: every memory location and the registers A, X, Y, S and P (R21 to R23, R31, R60). -/
abbrev Byte := BitVec 8

/-- A 16-bit value: addresses and the registers PC, W and I (R24 to R26, R60). -/
abbrev Word := BitVec 16

end Sys2Proof
end

