-- ==== Sys2Proof/Config.lean ====
section
/-! DEFINITION. What the spec leaves free or to the platform: constants WITHOUT A BODY, so that a claim about the machine is
true whatever their values are. The parameters to which the spec gives a default are in Machine/Parameters.lean. -/

namespace Sys2Proof

/-- The k-th draw of an unspecified byte, `UNSPEC8()` (00_scope.md section 4 and R15; 92 D7, D13, D14, D15). Log 8. -/
opaque Config.unspec8 : Nat → Byte

/-- The k-th draw of an unspecified bit: N, Z and C after decimal arithmetic on bytes that are not BCD (R224). Log 8, 23. -/
opaque Config.unspecBit : Nat → Bool

/-- `IRQ_VECTOR(src)`: the vector address of each maskable interrupt source (R434; 92 D18, left to the platform). Log 18. -/
opaque Config.irqVector : Nat → Word

/-- The address C18.1 prints as "?", of the first ignored read of the start sequence (R470; 93 U11). Log 30. -/
opaque Config.startAddress : Word

end Sys2Proof
end

