-- ==== Sys2Proof/Syntax.lean ====
section
/-! DEFINITION. The instructions: one constructor per row of spec/opcode_table.json, 229 in all (30_encoding.md R100, R108),
named by the mnemonic and, where the mnemonic has several rows, its addressing mode: Imm Immediate, Zp Zero Page, ZpX Zero Page,X,
ZpY Zero Page,Y, Abs Absolute, AbsX Absolute,X, AbsY Absolute,Y, Ind (Indirect) or JMP's (Absolute), IndX (Indirect),X or JMP's
(Absolute,X), Acc Accumulator; a digit is the bit number or the vector number in opcode bits 6:4 (R102). Operands: `n` a constant or
a zero page address, `nn` an absolute address, `r` a relative offset, `mask` a byte mask, `data` STI's constant (R101). -/

namespace Sys2Proof

/-- An instruction with its operands, at the widths of the encoding (R101, R103, R104). -/
inductive Instr where
  -- 41 load, store, transfer, exchange
  | ldaInd (n : Byte)
  | ldaZp (n : Byte)
  | ldaImm (n : Byte)
  | ldaAbs (nn : Word)
  | ldaIndX (n : Byte)
  | ldaZpX (n : Byte)
  | ldaAbsY (nn : Word)
  | ldaAbsX (nn : Word)
  | ldxImm (n : Byte)
  | ldxZp (n : Byte)
  | ldxAbs (nn : Word)
  | ldxZpY (n : Byte)
  | ldxAbsY (nn : Word)
  | ldyImm (n : Byte)
  | ldyZp (n : Byte)
  | ldyAbs (nn : Word)
  | ldyZpX (n : Byte)
  | ldyAbsX (nn : Word)
  | staInd (n : Byte)
  | staZp (n : Byte)
  | staAbs (nn : Word)
  | staIndX (n : Byte)
  | staZpX (n : Byte)
  | staAbsY (nn : Word)
  | staAbsX (nn : Word)
  | stxZp (n : Byte)
  | stxAbs (nn : Word)
  | stxZpY (n : Byte)
  | styZp (n : Byte)
  | styAbs (nn : Word)
  | styZpX (n : Byte)
  | sti (data n : Byte)
  | tax
  | tay
  | txa
  | tya
  | tsx
  | txs
  | exc (n : Byte)
  -- 42 arithmetic, logic, compare
  | adcInd (n : Byte)
  | adcZp (n : Byte)
  | adcImm (n : Byte)
  | adcAbs (nn : Word)
  | adcIndX (n : Byte)
  | adcZpX (n : Byte)
  | adcAbsY (nn : Word)
  | adcAbsX (nn : Word)
  | addZp (n : Byte)
  | addZpX (n : Byte)
  | addImm (n : Byte)
  | sbcInd (n : Byte)
  | sbcZp (n : Byte)
  | sbcImm (n : Byte)
  | sbcAbs (nn : Word)
  | sbcIndX (n : Byte)
  | sbcZpX (n : Byte)
  | sbcAbsY (nn : Word)
  | sbcAbsX (nn : Word)
  | andInd (n : Byte)
  | andZp (n : Byte)
  | andImm (n : Byte)
  | andAbs (nn : Word)
  | andIndX (n : Byte)
  | andZpX (n : Byte)
  | andAbsY (nn : Word)
  | andAbsX (nn : Word)
  | oraInd (n : Byte)
  | oraZp (n : Byte)
  | oraImm (n : Byte)
  | oraAbs (nn : Word)
  | oraIndX (n : Byte)
  | oraZpX (n : Byte)
  | oraAbsY (nn : Word)
  | oraAbsX (nn : Word)
  | eorInd (n : Byte)
  | eorZp (n : Byte)
  | eorImm (n : Byte)
  | eorAbs (nn : Word)
  | eorIndX (n : Byte)
  | eorZpX (n : Byte)
  | eorAbsY (nn : Word)
  | eorAbsX (nn : Word)
  | cmpInd (n : Byte)
  | cmpZp (n : Byte)
  | cmpImm (n : Byte)
  | cmpAbs (nn : Word)
  | cmpIndX (n : Byte)
  | cmpZpX (n : Byte)
  | cmpAbsY (nn : Word)
  | cmpAbsX (nn : Word)
  | cpxImm (n : Byte)
  | cpxZp (n : Byte)
  | cpxAbs (nn : Word)
  | cpyImm (n : Byte)
  | cpyZp (n : Byte)
  | cpyAbs (nn : Word)
  | bitZp (n : Byte)
  | bitAbs (nn : Word)
  | incZp (n : Byte)
  | incAbs (nn : Word)
  | incZpX (n : Byte)
  | incAbsX (nn : Word)
  | decZp (n : Byte)
  | decAbs (nn : Word)
  | decZpX (n : Byte)
  | decAbsX (nn : Word)
  | inx
  | iny
  | dex
  | dey
  | neg
  | lab
  -- 43 shifts and rotates
  | aslZp (n : Byte)
  | aslAcc
  | aslAbs (nn : Word)
  | aslZpX (n : Byte)
  | aslAbsX (nn : Word)
  | lsrZp (n : Byte)
  | lsrAcc
  | lsrAbs (nn : Word)
  | lsrZpX (n : Byte)
  | lsrAbsX (nn : Word)
  | rolZp (n : Byte)
  | rolAcc
  | rolAbs (nn : Word)
  | rolZpX (n : Byte)
  | rolAbsX (nn : Word)
  | rorZp (n : Byte)
  | rorAcc
  | rorAbs (nn : Word)
  | rorZpX (n : Byte)
  | rorAbsX (nn : Word)
  | asr
  -- 44 multiply and W
  | mpy
  | mpa
  | rnd
  | clw
  | taw
  | twa
  | phw
  | plw
  -- 46 branches, jumps, subroutines
  | bcc (r : Byte)
  | bcs (r : Byte)
  | beq (r : Byte)
  | bne (r : Byte)
  | bmi (r : Byte)
  | bpl (r : Byte)
  | bvc (r : Byte)
  | bvs (r : Byte)
  | bra (r : Byte)
  | jmpAbs (nn : Word)
  | jmpInd (nn : Word)
  | jmpIndX (nn : Word)
  | jsr (nn : Word)
  | jsb0
  | jsb1
  | jsb2
  | jsb3
  | jsb4
  | jsb5
  | jsb6
  | jsb7
  | rts
  -- 45 bit operations
  | rmb0 (n : Byte)
  | rmb1 (n : Byte)
  | rmb2 (n : Byte)
  | rmb3 (n : Byte)
  | rmb4 (n : Byte)
  | rmb5 (n : Byte)
  | rmb6 (n : Byte)
  | rmb7 (n : Byte)
  | smb0 (n : Byte)
  | smb1 (n : Byte)
  | smb2 (n : Byte)
  | smb3 (n : Byte)
  | smb4 (n : Byte)
  | smb5 (n : Byte)
  | smb6 (n : Byte)
  | smb7 (n : Byte)
  | rba (mask : Byte) (nn : Word)
  | sba (mask : Byte) (nn : Word)
  | bbr0 (n r : Byte)
  | bbr1 (n r : Byte)
  | bbr2 (n r : Byte)
  | bbr3 (n r : Byte)
  | bbr4 (n r : Byte)
  | bbr5 (n r : Byte)
  | bbr6 (n r : Byte)
  | bbr7 (n r : Byte)
  | bbs0 (n r : Byte)
  | bbs1 (n r : Byte)
  | bbs2 (n r : Byte)
  | bbs3 (n r : Byte)
  | bbs4 (n r : Byte)
  | bbs5 (n r : Byte)
  | bbs6 (n r : Byte)
  | bbs7 (n r : Byte)
  | bar (nn : Word) (mask r : Byte)
  | bas (nn : Word) (mask r : Byte)
  -- 47 stack
  | pha
  | php
  | phx
  | phy
  | psh
  | pla
  | plp
  | plx
  | ply
  | pul
  -- 48 threaded code
  | nxt
  | lii
  | lai
  | lan
  | ini
  | phi
  | pli
  | jpi (nn : Word)
  | tip
  | pia
  -- 49 flags, NOP, BRK, RTI
  | clc
  | sec
  | cld
  | sed
  | cli
  | sei
  | clv
  | nop
  | brk
  | rti
  deriving DecidableEq, Repr

end Sys2Proof
end

