-- ==== Sys2Proof/WellFormed.lean ====
section
/-! DEFINITION. When a string of bytes is the encoding of one instruction (30_encoding.md R100, R108, R109, R111).
An `Instr` needs no check: its operands have the widths of the encoding, so every term of `Instr` is an instruction the encoding
admits. What can be ill-formed is the bytes: no operation code, a code that is Not Used, or a length that is not the code's. -/

namespace Sys2Proof

/-- The "bytes" number of every operation code, by high digit then low digit; 0 marks the codes that are Not Used (R108, R109). -/
def opcodeLengths : List (List Nat) :=
  [[1, 2, 1, 1, 0, 2, 2, 2, 1, 2, 1, 1, 3, 3, 3, 3],
   [2, 2, 1, 1, 0, 2, 2, 2, 1, 3, 1, 1, 0, 3, 3, 3],
   [3, 2, 1, 1, 2, 2, 2, 2, 1, 2, 1, 1, 3, 3, 3, 3],
   [2, 2, 1, 1, 0, 2, 2, 2, 1, 3, 1, 1, 0, 3, 3, 3],
   [1, 2, 1, 0, 0, 2, 2, 2, 1, 2, 1, 1, 3, 3, 3, 3],
   [2, 2, 1, 0, 0, 2, 2, 2, 1, 3, 1, 1, 0, 3, 3, 3],
   [1, 2, 1, 0, 2, 2, 2, 2, 1, 2, 1, 1, 3, 3, 3, 3],
   [2, 2, 1, 0, 2, 2, 2, 2, 1, 3, 1, 1, 3, 3, 3, 3],
   [2, 2, 0, 0, 2, 2, 2, 2, 1, 2, 1, 1, 3, 3, 3, 3],
   [2, 2, 0, 0, 2, 2, 2, 2, 1, 3, 1, 1, 0, 3, 0, 3],
   [2, 2, 2, 0, 2, 2, 2, 2, 1, 2, 1, 1, 3, 3, 3, 3],
   [2, 2, 3, 0, 2, 2, 2, 2, 1, 3, 1, 1, 3, 3, 3, 3],
   [2, 2, 4, 0, 2, 2, 2, 2, 1, 2, 1, 1, 3, 3, 3, 3],
   [2, 2, 4, 0, 2, 2, 2, 2, 1, 3, 1, 1, 0, 3, 3, 3],
   [2, 2, 5, 0, 2, 2, 2, 2, 1, 2, 1, 1, 3, 3, 3, 3],
   [2, 2, 5, 0, 0, 2, 2, 2, 1, 3, 1, 1, 0, 3, 3, 3]]

/-- `length(opcode)` of R111; 0 for a code that is Not Used. -/
def opcodeLength (op : Byte) : Nat := (opcodeLengths.getD (op.toNat / 16) []).getD (op.toNat % 16) 0

/-- The operation code is one of the 229 that are defined (R108, R109). -/
def opcodeDefined (op : Byte) : Bool := opcodeLength op != 0

/-- The bytes are exactly one instruction: a defined operation code and as many operand bytes as it takes (R100, R111). -/
def wellFormedCode : List Byte → Bool
  | [] => false
  | op :: operands => opcodeDefined op && operands.length + 1 == opcodeLength op

end Sys2Proof
end

