-- ==== Sys2Proof/Decode.lean ====
section
/-! DEFINITION. The decoder, total on any bytes and rejecting by name, and after it the encoder, both written from
30_encoding.md R101 and the opcode map of R108. -/

namespace Sys2Proof

/-- `{h, l}`: the word with the given high and low byte (R8). -/
def joinBytes (h l : Byte) : Word := h ++ l

/-- `hi(v)` (R8). -/
def hiByte (v : Word) : Byte := v.extractLsb' 8 8

/-- `lo(v)` (R8). -/
def loByte (v : Word) : Byte := v.extractLsb' 0 8

/-- The nine byte layouts of R101, each with the instruction its operand bytes make. -/
inductive Form where
  | impl (i : Instr)
  | imm (f : Byte → Instr)
  | zp (f : Byte → Instr)
  | rel (f : Byte → Instr)
  | abs (f : Word → Instr)
  | immZp (f : Byte → Byte → Instr)
  | zpRel (f : Byte → Byte → Instr)
  | maskAbs (f : Byte → Word → Instr)
  | absMaskRel (f : Word → Byte → Byte → Instr)

/-- The "bytes" column of R101. -/
def Form.length : Form → Nat
  | .impl _ => 1
  | .imm _ => 2
  | .zp _ => 2
  | .rel _ => 2
  | .abs _ => 3
  | .immZp _ => 3
  | .zpRel _ => 3
  | .maskAbs _ => 4
  | .absMaskRel _ => 5

/-- Operand assembly (R101, R103, R106, R107): `b k` is the k-th byte of the instruction, `b 0` its operation code. -/
def Form.assemble (b : Nat → Byte) : Form → Instr
  | .impl i => i
  | .imm f => f (b 1)
  | .zp f => f (b 1)
  | .rel f => f (b 1)
  | .abs f => f (joinBytes (b 2) (b 1))
  | .immZp f => f (b 1) (b 2)
  | .zpRel f => f (b 1) (b 2)
  | .maskAbs f => f (b 1) (joinBytes (b 3) (b 2))
  | .absMaskRel f => f (joinBytes (b 2) (b 1)) (b 3) (b 4)

/-- Operation codes 00 to 0F (R108); `none` is Not Used (R109). -/
def opcodeRow0 : List (Option Form) :=
  [some (.impl .brk), some (.zp .oraInd), some (.impl .mpy), some (.impl .tip),
   none, some (.zp .oraZp), some (.zp .aslZp), some (.zp .rmb0),
   some (.impl .php), some (.imm .oraImm), some (.impl .aslAcc), some (.impl .jsb0),
   some (.abs .jpi), some (.abs .oraAbs), some (.abs .aslAbs), some (.zpRel .bbr0)]

/-- Operation codes 10 to 1F (R108); `none` is Not Used (R109). -/
def opcodeRow1 : List (Option Form) :=
  [some (.rel .bpl), some (.zp .oraIndX), some (.impl .mpa), some (.impl .lab),
   none, some (.zp .oraZpX), some (.zp .aslZpX), some (.zp .rmb1),
   some (.impl .clc), some (.abs .oraAbsY), some (.impl .neg), some (.impl .jsb1),
   none, some (.abs .oraAbsX), some (.abs .aslAbsX), some (.zpRel .bbr1)]

/-- Operation codes 20 to 2F (R108); `none` is Not Used (R109). -/
def opcodeRow2 : List (Option Form) :=
  [some (.abs .jsr), some (.zp .andInd), some (.impl .psh), some (.impl .phw),
   some (.zp .bitZp), some (.zp .andZp), some (.zp .rolZp), some (.zp .rmb2),
   some (.impl .plp), some (.imm .andImm), some (.impl .rolAcc), some (.impl .jsb2),
   some (.abs .bitAbs), some (.abs .andAbs), some (.abs .rolAbs), some (.zpRel .bbr2)]

/-- Operation codes 30 to 3F (R108); `none` is Not Used (R109). -/
def opcodeRow3 : List (Option Form) :=
  [some (.rel .bmi), some (.zp .andIndX), some (.impl .pul), some (.impl .plw),
   none, some (.zp .andZpX), some (.zp .rolZpX), some (.zp .rmb3),
   some (.impl .sec), some (.abs .andAbsY), some (.impl .asr), some (.impl .jsb3),
   none, some (.abs .andAbsX), some (.abs .rolAbsX), some (.zpRel .bbr3)]

/-- Operation codes 40 to 4F (R108); `none` is Not Used (R109). -/
def opcodeRow4 : List (Option Form) :=
  [some (.impl .rti), some (.zp .eorInd), some (.impl .rnd), none,
   none, some (.zp .eorZp), some (.zp .lsrZp), some (.zp .rmb4),
   some (.impl .pha), some (.imm .eorImm), some (.impl .lsrAcc), some (.impl .jsb4),
   some (.abs .jmpAbs), some (.abs .eorAbs), some (.abs .lsrAbs), some (.zpRel .bbr4)]

/-- Operation codes 50 to 5F (R108); `none` is Not Used (R109). -/
def opcodeRow5 : List (Option Form) :=
  [some (.rel .bvc), some (.zp .eorIndX), some (.impl .clw), none,
   none, some (.zp .eorZpX), some (.zp .lsrZpX), some (.zp .rmb5),
   some (.impl .cli), some (.abs .eorAbsY), some (.impl .phy), some (.impl .jsb5),
   none, some (.abs .eorAbsX), some (.abs .lsrAbsX), some (.zpRel .bbr5)]

/-- Operation codes 60 to 6F (R108); `none` is Not Used (R109). -/
def opcodeRow6 : List (Option Form) :=
  [some (.impl .rts), some (.zp .adcInd), some (.impl .taw), none,
   some (.zp .addZp), some (.zp .adcZp), some (.zp .rorZp), some (.zp .rmb6),
   some (.impl .pla), some (.imm .adcImm), some (.impl .rorAcc), some (.impl .jsb6),
   some (.abs .jmpInd), some (.abs .adcAbs), some (.abs .rorAbs), some (.zpRel .bbr6)]

/-- Operation codes 70 to 7F (R108); `none` is Not Used (R109). -/
def opcodeRow7 : List (Option Form) :=
  [some (.rel .bvs), some (.zp .adcIndX), some (.impl .twa), none,
   some (.zp .addZpX), some (.zp .adcZpX), some (.zp .rorZpX), some (.zp .rmb7),
   some (.impl .sei), some (.abs .adcAbsY), some (.impl .ply), some (.impl .jsb7),
   some (.abs .jmpIndX), some (.abs .adcAbsX), some (.abs .rorAbsX), some (.zpRel .bbr7)]

/-- Operation codes 80 to 8F (R108); `none` is Not Used (R109). -/
def opcodeRow8 : List (Option Form) :=
  [some (.rel .bra), some (.zp .staInd), none, none,
   some (.zp .styZp), some (.zp .staZp), some (.zp .stxZp), some (.zp .smb0),
   some (.impl .dey), some (.imm .addImm), some (.impl .txa), some (.impl .nxt),
   some (.abs .styAbs), some (.abs .staAbs), some (.abs .stxAbs), some (.zpRel .bbs0)]

/-- Operation codes 90 to 9F (R108); `none` is Not Used (R109). -/
def opcodeRow9 : List (Option Form) :=
  [some (.rel .bcc), some (.zp .staIndX), none, none,
   some (.zp .styZpX), some (.zp .staZpX), some (.zp .stxZpY), some (.zp .smb1),
   some (.impl .tya), some (.abs .staAbsY), some (.impl .txs), some (.impl .lii),
   none, some (.abs .staAbsX), none, some (.zpRel .bbs1)]

/-- Operation codes A0 to AF (R108); `none` is Not Used (R109). -/
def opcodeRowA : List (Option Form) :=
  [some (.imm .ldyImm), some (.zp .ldaInd), some (.imm .ldxImm), none,
   some (.zp .ldyZp), some (.zp .ldaZp), some (.zp .ldxZp), some (.zp .smb2),
   some (.impl .tay), some (.imm .ldaImm), some (.impl .tax), some (.impl .lan),
   some (.abs .ldyAbs), some (.abs .ldaAbs), some (.abs .ldxAbs), some (.zpRel .bbs2)]

/-- Operation codes B0 to BF (R108); `none` is Not Used (R109). -/
def opcodeRowB : List (Option Form) :=
  [some (.rel .bcs), some (.zp .ldaIndX), some (.immZp .sti), none,
   some (.zp .ldyZpX), some (.zp .ldaZpX), some (.zp .ldxZpY), some (.zp .smb3),
   some (.impl .clv), some (.abs .ldaAbsY), some (.impl .tsx), some (.impl .ini),
   some (.abs .ldyAbsX), some (.abs .ldaAbsX), some (.abs .ldxAbsY), some (.zpRel .bbs3)]

/-- Operation codes C0 to CF (R108); `none` is Not Used (R109). -/
def opcodeRowC : List (Option Form) :=
  [some (.imm .cpyImm), some (.zp .cmpInd), some (.maskAbs .rba), none,
   some (.zp .cpyZp), some (.zp .cmpZp), some (.zp .decZp), some (.zp .smb4),
   some (.impl .iny), some (.imm .cmpImm), some (.impl .dex), some (.impl .phi),
   some (.abs .cpyAbs), some (.abs .cmpAbs), some (.abs .decAbs), some (.zpRel .bbs4)]

/-- Operation codes D0 to DF (R108); `none` is Not Used (R109). -/
def opcodeRowD : List (Option Form) :=
  [some (.rel .bne), some (.zp .cmpIndX), some (.maskAbs .sba), none,
   some (.zp .exc), some (.zp .cmpZpX), some (.zp .decZpX), some (.zp .smb5),
   some (.impl .cld), some (.abs .cmpAbsY), some (.impl .phx), some (.impl .pli),
   none, some (.abs .cmpAbsX), some (.abs .decAbsX), some (.zpRel .bbs5)]

/-- Operation codes E0 to EF (R108); `none` is Not Used (R109). -/
def opcodeRowE : List (Option Form) :=
  [some (.imm .cpxImm), some (.zp .sbcInd), some (.absMaskRel .bar), none,
   some (.zp .cpxZp), some (.zp .sbcZp), some (.zp .incZp), some (.zp .smb6),
   some (.impl .inx), some (.imm .sbcImm), some (.impl .nop), some (.impl .lai),
   some (.abs .cpxAbs), some (.abs .sbcAbs), some (.abs .incAbs), some (.zpRel .bbs6)]

/-- Operation codes F0 to FF (R108); `none` is Not Used (R109). -/
def opcodeRowF : List (Option Form) :=
  [some (.rel .beq), some (.zp .sbcIndX), some (.absMaskRel .bas), none,
   none, some (.zp .sbcZpX), some (.zp .incZpX), some (.zp .smb7),
   some (.impl .sed), some (.abs .sbcAbsY), some (.impl .plx), some (.impl .pia),
   none, some (.abs .sbcAbsX), some (.abs .incAbsX), some (.zpRel .bbs7)]

/-- The opcode map of R108, row by row. -/
def opcodeMap : List (List (Option Form)) :=
  [opcodeRow0, opcodeRow1, opcodeRow2, opcodeRow3, opcodeRow4, opcodeRow5, opcodeRow6, opcodeRow7,
   opcodeRow8, opcodeRow9, opcodeRowA, opcodeRowB, opcodeRowC, opcodeRowD, opcodeRowE, opcodeRowF]

/-- The cell of the opcode map for an operation code (R102, R108). -/
def lookupOpcode (op : Byte) : Option Form := (opcodeMap.getD (op.toNat / 16) []).getD (op.toNat % 16) none

/-- Why bytes are not an instruction. -/
inductive DecodeError where
  /-- The operation code is one of the 27 that are Not Used (R109). -/
  | notUsed (opcode : Byte)
  /-- There are fewer bytes than the instruction takes (R111). -/
  | tooShort
  deriving DecidableEq, Repr

/-- Decode the instruction whose k-th byte is `b k`; only the bytes it takes are looked at (R111). -/
def decodeAt (b : Nat → Byte) : Except DecodeError Instr :=
  match lookupOpcode (b 0) with
  | some form => .ok (form.assemble b)
  | none => .error (.notUsed (b 0))

/-- Decode the first instruction of a string of bytes and give the rest of the string (R100, R111). -/
def decode (bytes : List Byte) : Except DecodeError (Instr × List Byte) :=
  match bytes with
  | [] => .error .tooShort
  | op :: _ =>
    match lookupOpcode op with
    | none => .error (.notUsed op)
    | some form =>
      if bytes.length < form.length then .error .tooShort
      else .ok (form.assemble (fun k => bytes.getD k 0), bytes.drop form.length)

/-- The five bytes of an instruction whose bits are `w`, bit 0 the least significant bit of the operation code, the bits from
`nbits` on being 0. -/
def tableBytes (nbits w : Nat) : List Byte :=
  [0, 1, 2, 3, 4].map (fun k => BitVec.ofNat 8 ((w % 2 ^ nbits) / 2 ^ (8 * k)))

/-- The instruction the decoder reads from a row of spec/opcode_table.json whose bits are `w`. -/
def decodeTableWord (nbits w : Nat) : Option Instr :=
  match decode (tableBytes nbits w) with
  | .ok (i, _) => some i
  | .error _ => none

/-- The bytes of an instruction, operation code first (R100, R101, R108). -/
def encode : Instr → List Byte
  | .ldaInd n => [0xA1, n]
  | .ldaZp n => [0xA5, n]
  | .ldaImm n => [0xA9, n]
  | .ldaAbs nn => [0xAD, loByte nn, hiByte nn]
  | .ldaIndX n => [0xB1, n]
  | .ldaZpX n => [0xB5, n]
  | .ldaAbsY nn => [0xB9, loByte nn, hiByte nn]
  | .ldaAbsX nn => [0xBD, loByte nn, hiByte nn]
  | .ldxImm n => [0xA2, n]
  | .ldxZp n => [0xA6, n]
  | .ldxAbs nn => [0xAE, loByte nn, hiByte nn]
  | .ldxZpY n => [0xB6, n]
  | .ldxAbsY nn => [0xBE, loByte nn, hiByte nn]
  | .ldyImm n => [0xA0, n]
  | .ldyZp n => [0xA4, n]
  | .ldyAbs nn => [0xAC, loByte nn, hiByte nn]
  | .ldyZpX n => [0xB4, n]
  | .ldyAbsX nn => [0xBC, loByte nn, hiByte nn]
  | .staInd n => [0x81, n]
  | .staZp n => [0x85, n]
  | .staAbs nn => [0x8D, loByte nn, hiByte nn]
  | .staIndX n => [0x91, n]
  | .staZpX n => [0x95, n]
  | .staAbsY nn => [0x99, loByte nn, hiByte nn]
  | .staAbsX nn => [0x9D, loByte nn, hiByte nn]
  | .stxZp n => [0x86, n]
  | .stxAbs nn => [0x8E, loByte nn, hiByte nn]
  | .stxZpY n => [0x96, n]
  | .styZp n => [0x84, n]
  | .styAbs nn => [0x8C, loByte nn, hiByte nn]
  | .styZpX n => [0x94, n]
  | .sti data n => [0xB2, data, n]
  | .tax => [0xAA]
  | .tay => [0xA8]
  | .txa => [0x8A]
  | .tya => [0x98]
  | .tsx => [0xBA]
  | .txs => [0x9A]
  | .exc n => [0xD4, n]
  | .adcInd n => [0x61, n]
  | .adcZp n => [0x65, n]
  | .adcImm n => [0x69, n]
  | .adcAbs nn => [0x6D, loByte nn, hiByte nn]
  | .adcIndX n => [0x71, n]
  | .adcZpX n => [0x75, n]
  | .adcAbsY nn => [0x79, loByte nn, hiByte nn]
  | .adcAbsX nn => [0x7D, loByte nn, hiByte nn]
  | .addZp n => [0x64, n]
  | .addZpX n => [0x74, n]
  | .addImm n => [0x89, n]
  | .sbcInd n => [0xE1, n]
  | .sbcZp n => [0xE5, n]
  | .sbcImm n => [0xE9, n]
  | .sbcAbs nn => [0xED, loByte nn, hiByte nn]
  | .sbcIndX n => [0xF1, n]
  | .sbcZpX n => [0xF5, n]
  | .sbcAbsY nn => [0xF9, loByte nn, hiByte nn]
  | .sbcAbsX nn => [0xFD, loByte nn, hiByte nn]
  | .andInd n => [0x21, n]
  | .andZp n => [0x25, n]
  | .andImm n => [0x29, n]
  | .andAbs nn => [0x2D, loByte nn, hiByte nn]
  | .andIndX n => [0x31, n]
  | .andZpX n => [0x35, n]
  | .andAbsY nn => [0x39, loByte nn, hiByte nn]
  | .andAbsX nn => [0x3D, loByte nn, hiByte nn]
  | .oraInd n => [0x01, n]
  | .oraZp n => [0x05, n]
  | .oraImm n => [0x09, n]
  | .oraAbs nn => [0x0D, loByte nn, hiByte nn]
  | .oraIndX n => [0x11, n]
  | .oraZpX n => [0x15, n]
  | .oraAbsY nn => [0x19, loByte nn, hiByte nn]
  | .oraAbsX nn => [0x1D, loByte nn, hiByte nn]
  | .eorInd n => [0x41, n]
  | .eorZp n => [0x45, n]
  | .eorImm n => [0x49, n]
  | .eorAbs nn => [0x4D, loByte nn, hiByte nn]
  | .eorIndX n => [0x51, n]
  | .eorZpX n => [0x55, n]
  | .eorAbsY nn => [0x59, loByte nn, hiByte nn]
  | .eorAbsX nn => [0x5D, loByte nn, hiByte nn]
  | .cmpInd n => [0xC1, n]
  | .cmpZp n => [0xC5, n]
  | .cmpImm n => [0xC9, n]
  | .cmpAbs nn => [0xCD, loByte nn, hiByte nn]
  | .cmpIndX n => [0xD1, n]
  | .cmpZpX n => [0xD5, n]
  | .cmpAbsY nn => [0xD9, loByte nn, hiByte nn]
  | .cmpAbsX nn => [0xDD, loByte nn, hiByte nn]
  | .cpxImm n => [0xE0, n]
  | .cpxZp n => [0xE4, n]
  | .cpxAbs nn => [0xEC, loByte nn, hiByte nn]
  | .cpyImm n => [0xC0, n]
  | .cpyZp n => [0xC4, n]
  | .cpyAbs nn => [0xCC, loByte nn, hiByte nn]
  | .bitZp n => [0x24, n]
  | .bitAbs nn => [0x2C, loByte nn, hiByte nn]
  | .incZp n => [0xE6, n]
  | .incAbs nn => [0xEE, loByte nn, hiByte nn]
  | .incZpX n => [0xF6, n]
  | .incAbsX nn => [0xFE, loByte nn, hiByte nn]
  | .decZp n => [0xC6, n]
  | .decAbs nn => [0xCE, loByte nn, hiByte nn]
  | .decZpX n => [0xD6, n]
  | .decAbsX nn => [0xDE, loByte nn, hiByte nn]
  | .inx => [0xE8]
  | .iny => [0xC8]
  | .dex => [0xCA]
  | .dey => [0x88]
  | .neg => [0x1A]
  | .lab => [0x13]
  | .aslZp n => [0x06, n]
  | .aslAcc => [0x0A]
  | .aslAbs nn => [0x0E, loByte nn, hiByte nn]
  | .aslZpX n => [0x16, n]
  | .aslAbsX nn => [0x1E, loByte nn, hiByte nn]
  | .lsrZp n => [0x46, n]
  | .lsrAcc => [0x4A]
  | .lsrAbs nn => [0x4E, loByte nn, hiByte nn]
  | .lsrZpX n => [0x56, n]
  | .lsrAbsX nn => [0x5E, loByte nn, hiByte nn]
  | .rolZp n => [0x26, n]
  | .rolAcc => [0x2A]
  | .rolAbs nn => [0x2E, loByte nn, hiByte nn]
  | .rolZpX n => [0x36, n]
  | .rolAbsX nn => [0x3E, loByte nn, hiByte nn]
  | .rorZp n => [0x66, n]
  | .rorAcc => [0x6A]
  | .rorAbs nn => [0x6E, loByte nn, hiByte nn]
  | .rorZpX n => [0x76, n]
  | .rorAbsX nn => [0x7E, loByte nn, hiByte nn]
  | .asr => [0x3A]
  | .mpy => [0x02]
  | .mpa => [0x12]
  | .rnd => [0x42]
  | .clw => [0x52]
  | .taw => [0x62]
  | .twa => [0x72]
  | .phw => [0x23]
  | .plw => [0x33]
  | .bcc r => [0x90, r]
  | .bcs r => [0xB0, r]
  | .beq r => [0xF0, r]
  | .bne r => [0xD0, r]
  | .bmi r => [0x30, r]
  | .bpl r => [0x10, r]
  | .bvc r => [0x50, r]
  | .bvs r => [0x70, r]
  | .bra r => [0x80, r]
  | .jmpAbs nn => [0x4C, loByte nn, hiByte nn]
  | .jmpInd nn => [0x6C, loByte nn, hiByte nn]
  | .jmpIndX nn => [0x7C, loByte nn, hiByte nn]
  | .jsr nn => [0x20, loByte nn, hiByte nn]
  | .jsb0 => [0x0B]
  | .jsb1 => [0x1B]
  | .jsb2 => [0x2B]
  | .jsb3 => [0x3B]
  | .jsb4 => [0x4B]
  | .jsb5 => [0x5B]
  | .jsb6 => [0x6B]
  | .jsb7 => [0x7B]
  | .rts => [0x60]
  | .rmb0 n => [0x07, n]
  | .rmb1 n => [0x17, n]
  | .rmb2 n => [0x27, n]
  | .rmb3 n => [0x37, n]
  | .rmb4 n => [0x47, n]
  | .rmb5 n => [0x57, n]
  | .rmb6 n => [0x67, n]
  | .rmb7 n => [0x77, n]
  | .smb0 n => [0x87, n]
  | .smb1 n => [0x97, n]
  | .smb2 n => [0xA7, n]
  | .smb3 n => [0xB7, n]
  | .smb4 n => [0xC7, n]
  | .smb5 n => [0xD7, n]
  | .smb6 n => [0xE7, n]
  | .smb7 n => [0xF7, n]
  | .rba mask nn => [0xC2, mask, loByte nn, hiByte nn]
  | .sba mask nn => [0xD2, mask, loByte nn, hiByte nn]
  | .bbr0 n r => [0x0F, n, r]
  | .bbr1 n r => [0x1F, n, r]
  | .bbr2 n r => [0x2F, n, r]
  | .bbr3 n r => [0x3F, n, r]
  | .bbr4 n r => [0x4F, n, r]
  | .bbr5 n r => [0x5F, n, r]
  | .bbr6 n r => [0x6F, n, r]
  | .bbr7 n r => [0x7F, n, r]
  | .bbs0 n r => [0x8F, n, r]
  | .bbs1 n r => [0x9F, n, r]
  | .bbs2 n r => [0xAF, n, r]
  | .bbs3 n r => [0xBF, n, r]
  | .bbs4 n r => [0xCF, n, r]
  | .bbs5 n r => [0xDF, n, r]
  | .bbs6 n r => [0xEF, n, r]
  | .bbs7 n r => [0xFF, n, r]
  | .bar nn mask r => [0xE2, loByte nn, hiByte nn, mask, r]
  | .bas nn mask r => [0xF2, loByte nn, hiByte nn, mask, r]
  | .pha => [0x48]
  | .php => [0x08]
  | .phx => [0xDA]
  | .phy => [0x5A]
  | .psh => [0x22]
  | .pla => [0x68]
  | .plp => [0x28]
  | .plx => [0xFA]
  | .ply => [0x7A]
  | .pul => [0x32]
  | .nxt => [0x8B]
  | .lii => [0x9B]
  | .lai => [0xEB]
  | .lan => [0xAB]
  | .ini => [0xBB]
  | .phi => [0xCB]
  | .pli => [0xDB]
  | .jpi nn => [0x0C, loByte nn, hiByte nn]
  | .tip => [0x03]
  | .pia => [0xFB]
  | .clc => [0x18]
  | .sec => [0x38]
  | .cld => [0xD8]
  | .sed => [0xF8]
  | .cli => [0x58]
  | .sei => [0x78]
  | .clv => [0xB8]
  | .nop => [0xEA]
  | .brk => [0x00]
  | .rti => [0x40]

end Sys2Proof
end

