-- ==== Sys2Proof/Machine/State.lean ====
section
/-! DEFINITION. The machine's state as plain data, the one way it can stop, and the state after reset. -/

namespace Sys2Proof.Machine

/-- Memory as (address, byte) pairs: addresses strictly rising, no entry equal to what an unlisted address reads as
(Machine/Memory.lean; R37, R60). -/
abbrev Memory := List Host.Cell

/-- A region of the address space, both ends included. -/
structure Region where
  /-- The lowest address. -/
  first : Word
  /-- The highest address. -/
  last : Word
  deriving DecidableEq, Repr

/-- Everything the spec gives the machine: the eight registers of R20, the memory of R37 and R60 with the platform's map of it
(R61, R68), the pending requests of R38 and R447, and the model's own draw counter. -/
structure State where
  /-- The accumulator A (R21). -/
  a : Byte
  /-- Index register X (R22). -/
  x : Byte
  /-- Index register Y (R22). -/
  y : Byte
  /-- The stack pointer S; it addresses page 01 (R23). -/
  sp : Byte
  /-- The processor status P, bits 7 to 0 = N V - B D I Z C (R31; log 13). -/
  p : Byte
  /-- The program counter PC (R24). -/
  pc : Word
  /-- The multiply-accumulate register W = WH, WL (R25). -/
  w : Word
  /-- The threaded-code pointer I = IH, IL (R26). -/
  ireg : Word
  /-- The 64 KiB of byte memory (R37, R60). -/
  mem : Memory
  /-- `MEM`, the platform's map: the regions that are ROM; every other address is RAM (R61, R68; 92 D20; log 2). -/
  rom : List Region
  /-- A reset has been requested and not yet served (R447, R472; log 34). -/
  resetRequest : Bool
  /-- An NMI request is pending (R38, R437; log 34). -/
  nmiRequest : Bool
  /-- The maskable sources with a request pending, named by their place in the platform's priority order, 0 the highest
  (R434, R447; log 18, 34). -/
  irqRequests : List Nat
  /-- The MODEL's own field: how many unspecified values have been drawn so far (R15; log 8). -/
  draws : Nat
  deriving DecidableEq, Repr

/-- How a step can stop. -/
inductive Fault where
  /-- Raised by the fetch (Machine/Fetch.lean) when the operation code at `pc` is one of the 27 that Table A-3 marks
  "Not Used" (R110, R433; log 9). SAFE: the model stops where the spec gives the byte no meaning. -/
  | illegalOpcode (pc : Word) (opcode : Byte)
  deriving DecidableEq, Repr

/-- Why a step would have no answer. -/
inductive Refusal where
  /-- Raised by an arm of `exec` whose instruction has no meaning yet; no arm does. SAFE: the model stops. -/
  | notModelled (mnemonic : String)
  deriving DecidableEq, Repr

/-- The outcome of an instruction. -/
abbrev Result := Host.Outcome State Fault Refusal

/-- The machine right after reset (R39, R471). D = 0 is the spec's value; I = 1 is the spec's default (log 5); PC is the word at
0xFFFE, 0xFFFF of the memory below (log 6); every other register is DESIGN CHOICE zero (log 3, 4); memory lists nothing (log 1);
every address is RAM, the default of 92 D20 (log 2); no request is pending (log 34). -/
def State.reset : State where
  a := 0x00
  x := 0x00
  y := 0x00
  sp := 0x00
  p := 0x04
  pc := 0x0000
  w := 0x0000
  ireg := 0x0000
  mem := []
  rom := []
  resetRequest := false
  nmiRequest := false
  irqRequests := []
  draws := 0

end Sys2Proof.Machine
end

