-- ==== Sys2Proof/Machine/Flags.lean ====
section
/-! DEFINITION. The bits of P and every flag computation of the spec (10_state.md section 3; files 42 and 43). -/

namespace Sys2Proof.Machine

/-- The eight bits of P (R31); `unused` is bit 5, which has no name. -/
inductive Flag where
  | n | v | unused | b | d | i | z | c
  deriving DecidableEq, Repr

/-- The place of each bit of P (R31; log 13). -/
def Flag.bit : Flag → Nat
  | .n => 7 | .v => 6 | .unused => 5 | .b => 4 | .d => 3 | .i => 2 | .z => 1 | .c => 0

/-- One bit of a P image. -/
def flagOf (p : Byte) (f : Flag) : Bool := p.getLsbD f.bit

/-- A P image with one bit replaced. -/
def withFlag (p : Byte) (f : Flag) (v : Bool) : Byte :=
  if v then p ||| ((1 : Byte) <<< f.bit) else p &&& ~~~((1 : Byte) <<< f.bit)

/-- The six bits PLP and RTI load from a pulled byte; B and bit 5 keep their value (R33). -/
def restoredP (old image : Byte) : Byte := (image &&& 0xCF) ||| (old &&& 0x30)

/-- The result of an addition or subtraction: the byte and the four flags it writes (R220 to R223). -/
structure AluResult where
  r : Byte
  n : Bool
  v : Bool
  z : Bool
  c : Bool
  deriving DecidableEq, Repr

/-- `AddBinary(a, m, cin)` (R220). -/
def addBinary (a m : Byte) (cin : Bool) : AluResult :=
  let sum := a.toNat + m.toNat + cin.toNat
  let r := BitVec.ofNat 8 sum
  { r := r, n := r.msb, v := (a.msb == m.msb) && (r.msb != a.msb), z := r == 0, c := decide (sum > 255) }

/-- `SubBinary(a, m, cin)`; the borrow is the complement of the carry in (R222). -/
def subBinary (a m : Byte) (cin : Bool) : AluResult :=
  let borrow : Int := 1 - cin.toNat
  let diff : Int := (a.toNat : Int) - m.toNat - borrow
  let r := BitVec.ofInt 8 diff
  { r := r, n := r.msb, v := (a.msb != m.msb) && (r.msb != a.msb), z := r == 0, c := decide (diff ≥ 0) }

/-- Both nibbles are decimal digits (R221). -/
def validBcd (b : Byte) : Bool := decide (b.toNat / 16 ≤ 9) && decide (b.toNat % 16 ≤ 9)

/-- `val(b)`: the two-digit decimal number of a packed BCD byte (R221). -/
def bcdValue (b : Byte) : Nat := 10 * (b.toNat / 16) + b.toNat % 16

/-- `bcd(d)`: the packed BCD byte of a number from 0 to 99 (R221). -/
def toBcd (d : Nat) : Byte := BitVec.ofNat 8 ((d / 10) * 16 + d % 10)

/-- `AddDecimal(a, m, cin)` on packed BCD bytes (R221). -/
def addDecimal (a m : Byte) (cin : Bool) : AluResult :=
  let sum := bcdValue a + bcdValue m + cin.toNat
  let r := toBcd (sum % 100)
  { r := r, n := r.msb, v := false, z := r == 0, c := decide (sum > 99) }

/-- `SubDecimal(a, m, cin)` on packed BCD bytes; a borrow gives the ten's complement (R223; log 24). -/
def subDecimal (a m : Byte) (cin : Bool) : AluResult :=
  let borrow : Int := 1 - cin.toNat
  let diff : Int := (bcdValue a : Int) - bcdValue m - borrow
  let d : Int := if diff ≥ 0 then diff else diff + 100
  let r := toBcd d.toNat
  { r := r, n := r.msb, v := false, z := r == 0, c := decide (diff ≥ 0) }

/-- The flags a comparison writes (R231). -/
structure CompareResult where
  n : Bool
  z : Bool
  c : Bool
  deriving DecidableEq, Repr

/-- CMP, CPX, CPY: bit 7 of the 8-bit difference, equality, and unsigned greater or equal (R231 to R233). -/
def compareBytes (r m : Byte) : CompareResult :=
  { n := (r - m).msb, z := r == m, c := decide (m.toNat ≤ r.toNat) }

/-- The result of a shift or rotate: the byte, N, Z and the bit shifted out (R260 to R265). -/
structure ShiftResult where
  r : Byte
  n : Bool
  z : Bool
  c : Bool
  deriving DecidableEq, Repr

/-- A shift result whose N and Z follow the result byte (`SetNZ`, R13). -/
def shiftResult (r : Byte) (c : Bool) : ShiftResult := { r := r, n := r.msb, z := r == 0, c := c }

/-- ASL (R260); the old carry is not shifted in. -/
def aslByte (t : Byte) (_cin : Bool) : ShiftResult := shiftResult (t <<< 1) (t.getLsbD 7)

/-- LSR (R261); N is always 0. -/
def lsrByte (t : Byte) (_cin : Bool) : ShiftResult :=
  { r := t >>> 1, n := false, z := t >>> 1 == 0, c := t.getLsbD 0 }

/-- ROL (R262): nine bits through C. -/
def rolByte (t : Byte) (cin : Bool) : ShiftResult :=
  shiftResult ((t <<< 1) ||| (if cin then 0x01 else 0x00)) (t.getLsbD 7)

/-- ROR (R263): nine bits through C. -/
def rorByte (t : Byte) (cin : Bool) : ShiftResult :=
  shiftResult ((t >>> 1) ||| (if cin then 0x80 else 0x00)) (t.getLsbD 0)

/-- ASR (R264): bit 7 keeps its value. -/
def asrByte (t : Byte) : ShiftResult := shiftResult ((t >>> 1) ||| (t &&& 0x80)) (t.getLsbD 0)

/-- MPY's product of the two signed bytes, in 16 bits (R280, R288). -/
def signedProduct (a y : Byte) : Word := BitVec.ofInt 16 (a.toInt * y.toInt)

/-- The accumulator of MPA and its V (R281). -/
structure AccumulateResult where
  w : Word
  v : Bool
  deriving DecidableEq, Repr

/-- MPA's sum, saturated at 0x7FFF and 0x8000 (R281). -/
def accumulate (w : Word) (a y : Byte) : AccumulateResult :=
  let sum : Int := w.toInt + a.toInt * y.toInt
  if sum > 32767 then { w := 0x7FFF, v := true }
  else if sum < -32768 then { w := 0x8000, v := true }
  else { w := BitVec.ofInt 16 sum, v := false }

/-- NEG: the two's complement (R241; 90 C22). -/
def negByte (b : Byte) : Byte := 0 - b

/-- LAB: the absolute value, 0x80 staying 0x80 (R242). -/
def absByte (b : Byte) : Byte := if b.msb then 0 - b else b

/-- The byte with one bit set: bit `k` of a bit-addressed instruction (R102, R158). -/
def bitMask (k : Nat) : Byte := (1 : Byte) <<< k

end Sys2Proof.Machine
end

