-- ==== Sys2Proof/Machine/Memory.lean ====
section
/-! DEFINITION. One byte of memory: what an unlisted address reads as, reading, writing, and the canonical form. -/

namespace Sys2Proof.Machine

/-- What a byte that nothing has written reads as: the spec leaves memory at power-on unspecified (R39; 93 U12).
DESIGN CHOICE, unsafe (log 1). -/
def unlistedByte : Byte := 0x00

/-- The byte at an address (R60). -/
def Memory.read : Memory → Nat → Byte
  | [], _ => unlistedByte
  | (a, b) :: m, k => if k = a then b else Memory.read m k

/-- The memory without any entry at an address. -/
def Memory.without : Memory → Nat → Memory
  | [], _ => []
  | (a, b) :: m, k => if a = k then Memory.without m k else (a, b) :: Memory.without m k

/-- The memory with an entry put at its place in the rising order. -/
def Memory.place : Memory → Nat → Byte → Memory
  | [], k, v => [(k, v)]
  | (a, b) :: m, k, v => if k < a then (k, v) :: (a, b) :: m else (a, b) :: Memory.place m k v

/-- Store a byte, keeping the canonical form: a byte equal to what an unlisted address reads as is not listed. -/
def Memory.write (m : Memory) (k : Nat) (v : Byte) : Memory :=
  if v = unlistedByte then Memory.without m k else Memory.place (Memory.without m k) k v

/-- The canonical form: addresses of 16 bits, strictly rising, and no entry that an unlisted address would read as (R60). -/
def Memory.wf : Memory → Bool
  | [] => true
  | (a, b) :: m => decide (a < 65536) && b != unlistedByte && m.all (fun c => decide (a < c.1)) && Memory.wf m

end Sys2Proof.Machine
end

