-- ==== Sys2Proof/Machine/Parameters.lean ====
section
/-! DEFINITION. The named parameters of 00_scope.md section 4 to which the spec gives a value or a default, and the fixed
vector addresses of 20_memory.md R61. -/

namespace Sys2Proof.Machine

/-- `RESET_VECTOR`: the start sequence loads PC from here (R61, R470). -/
def resetVector : Word := 0xFFFE

/-- `NMI_VECTOR` (R61, R430). -/
def nmiVector : Word := 0xFFFC

/-- `BRK_VECTOR`, default 0xFFFC, the NMI vector; the other reading is 0xFFF0 (R418; 90 C12, 92 D2). Log 10. -/
def brkVector : Word := 0xFFFC

/-- `BRK_PUSHED_PC_OFFSET`, default 1; the other reading is 2 (R418; 90 C13, 92 D3). Log 11. -/
def brkPushedPcOffset : Word := 1

/-- `BRK_STACKED_B` is `1` (true) or `old` (false), default `old` (R418; 92 D4). Log 12. -/
def brkStackedB : Bool := false

/-- `RESET_P_I`, default 1 (R39, R471; 92 D7). Log 5. -/
def resetPI : Bool := true

/-- The vector of JSB n, 0xFFE0 + 2n (R162, R334). -/
def jsbVector (n : Nat) : Word := 0xFFE0 + BitVec.ofNat 16 (2 * n)

end Sys2Proof.Machine
end

