-- ==== Sys2Proof/Machine/Ops.lean ====
section
/-! DEFINITION. The named operations over registers and memory: one setter per field, the flags, reads and writes, the stack,
the draws of unspecified values, taking an exception, returning from one, and the start sequence. -/

namespace Sys2Proof.Machine

/-- Write A (R10). -/
def State.setA (s : State) (v : Byte) : State := { s with a := v }

/-- Write X (R10). -/
def State.setX (s : State) (v : Byte) : State := { s with x := v }

/-- Write Y (R10). -/
def State.setY (s : State) (v : Byte) : State := { s with y := v }

/-- Write S (R10). -/
def State.setSp (s : State) (v : Byte) : State := { s with sp := v }

/-- Write P (R10). -/
def State.setP (s : State) (v : Byte) : State := { s with p := v }

/-- Write PC (R10). -/
def State.setPc (s : State) (v : Word) : State := { s with pc := v }

/-- Write W (R10). -/
def State.setW (s : State) (v : Word) : State := { s with w := v }

/-- Write the I register (R10). -/
def State.setIreg (s : State) (v : Word) : State := { s with ireg := v }

/-- Replace memory. -/
def State.setMem (s : State) (v : Memory) : State := { s with mem := v }

/-- The platform gives its map of ROM (R485; 92 D20; log 2). -/
def State.setRom (s : State) (v : List Region) : State := { s with rom := v }

/-- Replace the reset request. -/
def State.setResetRequest (s : State) (v : Bool) : State := { s with resetRequest := v }

/-- Replace the NMI request. -/
def State.setNmiRequest (s : State) (v : Bool) : State := { s with nmiRequest := v }

/-- Replace the maskable requests. -/
def State.setIrqRequests (s : State) (v : List Nat) : State := { s with irqRequests := v }

/-- Replace the draw counter. -/
def State.setDraws (s : State) (v : Nat) : State := { s with draws := v }

/-! ## Flags -/

/-- One flag of P (R31). -/
def State.flag (s : State) (f : Flag) : Bool := flagOf s.p f

/-- Write one flag of P; the other seven bits keep their value (R194). -/
def State.setFlag (s : State) (f : Flag) (v : Bool) : State := s.setP (withFlag s.p f v)

/-- `SetNZ(v)` (R13). -/
def State.setNZ (s : State) (v : Byte) : State := (s.setFlag .n v.msb).setFlag .z (v == 0)

/-! ## The program counter -/

/-- `PC <- PCnext` for an instruction of `len` bytes at PC, modulo 65536 (R28, R30; log 20). -/
def State.advance (s : State) (len : Nat) : State := s.setPc (s.pc + BitVec.ofNat 16 len)

/-! ## Memory -/

/-- `MemRead(addr, 1)` (R11); it never fails (R431). -/
def State.read (s : State) (addr : Word) : Byte := s.mem.read addr.toNat

/-- The platform's map has ROM at this address (R61, R68; log 2). -/
def State.isRom (s : State) (addr : Word) : Bool :=
  s.rom.any fun g => decide (g.first.toNat ≤ addr.toNat) && decide (addr.toNat ≤ g.last.toNat)

/-- `MemWrite(addr, 1, v)` (R11): RAM keeps the byte, a write to ROM has no effect (R68; log 40). -/
def State.write (s : State) (addr : Word) (v : Byte) : State :=
  s.setMem (if s.isRom addr then s.mem else s.mem.write addr.toNat v)

/-- A byte placed from outside the machine, in RAM and ROM alike (R475, R485; log 40). -/
def State.load (s : State) (addr : Word) (v : Byte) : State := s.setMem (s.mem.write addr.toNat v)

/-- `MemRead16(addr)`: the low byte at `addr`, the high byte at `u16(addr + 1)` (R11, R63). -/
def State.readWord (s : State) (addr : Word) : Word := joinBytes (s.read (addr + 1)) (s.read addr)

/-! ## The stack, in page 01 (R70 to R73; log 21) -/

/-- The stack address `{0x01, S}` (R23). -/
def stackAddr (sp : Byte) : Word := joinBytes 0x01 sp

/-- `Push8(v)` (R70). -/
def State.push8 (s : State) (v : Byte) : State := (s.write (stackAddr s.sp) v).setSp (s.sp - 1)

/-- `Push16(w)`: the high byte first (R72). -/
def State.push16 (s : State) (w : Word) : State := (s.push8 (hiByte w)).push8 (loByte w)

/-- The byte `Pull8()` returns: S is incremented before the read (R71). -/
def State.top8 (s : State) : Byte := s.read (stackAddr (s.sp + 1))

/-- The state `Pull8()` leaves (R71). -/
def State.pop8 (s : State) : State := s.setSp (s.sp + 1)

/-- The word `Pull16()` returns: the low byte is pulled first (R72). -/
def State.top16 (s : State) : Word := joinBytes s.pop8.top8 s.top8

/-- The state `Pull16()` leaves (R72). -/
def State.pop16 (s : State) : State := s.pop8.pop8

/-! ## Unspecified values (R15; log 8) -/

/-- The state after `k` draws: each draw is a fresh one. -/
def State.draw (s : State) (k : Nat) : State := s.setDraws (s.draws + k)

/-! ## Exceptions -/

/-- Taking an exception, the one sequence BRK and every hardware interrupt share (R418, R438): push the return address, high byte
first, push the P image, set I (and B for BRK), and load PC from the vector. D and the other flags keep their value (R440). -/
def State.takeException (s : State) (ret : Word) (image : Byte) (isBreak : Bool) (vector : Word) : State :=
  let pushed := (s.push16 ret).push8 image
  let marked := (if isBreak then pushed.setFlag .b true else pushed).setFlag .i true
  marked.setPc (marked.readWord vector)

/-- `InterruptEntry(vec)`: PC itself and P as it is are pushed, B is left alone (R438, R439; log 16). -/
def State.interruptEntry (s : State) (vector : Word) : State := s.takeException s.pc s.p false vector

/-- The P image BRK pushes: P as at the start of the instruction (R418; log 12). -/
def brkImage (stackedB : Bool) (p : Byte) : Byte := if stackedB then withFlag p .b true else p

/-- The effect of BRK for given parameters (R418). -/
def State.breakEntry (s : State) (vector offset : Word) (stackedB : Bool) : State :=
  s.takeException (s.pc + offset) (brkImage stackedB s.p) true vector

/-- The return from an exception: six bits of P, then PC, from the stack; no adjustment (R419, R443). -/
def State.returnFromException (s : State) : State :=
  let restored := s.pop8.setP (restoredP s.p s.top8)
  restored.pop16.setPc restored.top16

/-! ## Reset -/

/-- P after a start sequence: D = 0, I = `RESET_P_I`, the other six bits from an unspecified byte (R39, R470). -/
def resetP (drawn : Byte) : Byte := withFlag (withFlag drawn .d false) .i resetPI

/-- `StartSequence()`, a reset raised during a run (R447, R470 to R472): every register the source leaves unspecified takes a fresh
unspecified value, PC comes from 0xFFFE, memory is unchanged. DESIGN CHOICE: the request is served and the other requests stay
pending (log 7). -/
def State.startSequence (s : State) : State :=
  let k := s.draws
  { s with
    a := Config.unspec8 k
    x := Config.unspec8 (k + 1)
    y := Config.unspec8 (k + 2)
    sp := Config.unspec8 (k + 3)
    p := resetP (Config.unspec8 (k + 4))
    w := joinBytes (Config.unspec8 (k + 5)) (Config.unspec8 (k + 6))
    ireg := joinBytes (Config.unspec8 (k + 7)) (Config.unspec8 (k + 8))
    pc := s.readWord resetVector
    resetRequest := false
    draws := k + 9 }

end Sys2Proof.Machine
end

