-- ==== Sys2Proof/Machine/Operands.lean ====
section
/-! DEFINITION. Every addressing mode: effective addresses and branch and jump targets (40_addressing_modes.md), computed from the
registers as they are at the start of the instruction (R140), with silent wrap-around (R141; log 20, 22). Absolute needs no
definition: its effective address is the operand `nn` (R149). -/

namespace Sys2Proof.Machine

/-- Zero Page: `{0x00, n}` (R104, R146). -/
def eaZp (n : Byte) : Word := joinBytes 0x00 n

/-- Zero Page,X: the sum stays in zero page (R147). -/
def eaZpX (n : Byte) (s : State) : Word := joinBytes 0x00 (n + s.x)

/-- Zero Page,Y (R148). -/
def eaZpY (n : Byte) (s : State) : Word := joinBytes 0x00 (n + s.y)

/-- Absolute,X: `u16(nn + X)` (R150). -/
def eaAbsX (nn : Word) (s : State) : Word := nn + s.x.setWidth 16

/-- Absolute,Y (R151). -/
def eaAbsY (nn : Word) (s : State) : Word := nn + s.y.setWidth 16

/-- (Indirect): the pointer at zero page address `n`, its high byte at `{0x00, u8(n + 1)}` (R152). -/
def eaInd (n : Byte) (s : State) : Word := joinBytes (s.read (eaZp (n + 1))) (s.read (eaZp n))

/-- (Indirect),X: the pointer, then X (R153). -/
def eaIndX (n : Byte) (s : State) : Word := eaInd n s + s.x.setWidth 16

/-- JMP (Absolute) and JPI: the word at `nn`, the increment on all 16 bits (R155). -/
def targetInd (nn : Word) (s : State) : Word := s.readWord nn

/-- JMP (Absolute,X): the word at `u16(nn + X)` (R156). -/
def targetIndX (nn : Word) (s : State) : Word := s.readWord (eaAbsX nn s)

/-- `u16(PCnext + sext_16(r))` (R320, R308; log 27 for the bit branches). -/
def branchTarget (next : Word) (r : Byte) : Word := next + r.signExtend 16

end Sys2Proof.Machine
end

