-- ==== Sys2Proof/Machine/Arithmetic.lean ====
section
/-! DEFINITION. Arithmetic, logic, compare, increment and decrement (42_arithmetic_logic.md). -/

namespace Sys2Proof.Machine

/-- Write A and the flags N, V, Z, C of an addition or subtraction (R225 to R227). -/
def State.applyAlu (s : State) (res : AluResult) : State :=
  ((((s.setA res.r).setFlag .n res.n).setFlag .v res.v).setFlag .z res.z).setFlag .c res.c

/-- Decimal arithmetic on bytes that are not BCD: A, N, Z and C are independent unspecified draws, V is 0 (R224; log 23). -/
def State.applyInvalidBcd (s : State) : State :=
  (s.applyAlu
    { r := Config.unspec8 s.draws
      n := Config.unspecBit (s.draws + 1)
      v := false
      z := Config.unspecBit (s.draws + 2)
      c := Config.unspecBit (s.draws + 3) }).draw 4

/-- ADC and ADD: A plus `m` plus the carry in, binary or decimal as D says (R225, R226). -/
def addToA (cin : Bool) (m : Byte) (len : Nat) (s : State) : Result :=
  .next ((if s.flag .d then
            if validBcd s.a && validBcd m then s.applyAlu (addDecimal s.a m cin) else s.applyInvalidBcd
          else s.applyAlu (addBinary s.a m cin)).advance len)

/-- SBC: A minus `m` minus the borrow, binary or decimal as D says (R227). -/
def subFromA (m : Byte) (len : Nat) (s : State) : Result :=
  .next ((if s.flag .d then
            if validBcd s.a && validBcd m then s.applyAlu (subDecimal s.a m (s.flag .c)) else s.applyInvalidBcd
          else s.applyAlu (subBinary s.a m (s.flag .c))).advance len)

/-- AND, ORA, EOR, NEG, LAB: the result to A, N and Z from it (R228 to R230, R241, R242). -/
def resultToA (v : Byte) (len : Nat) (s : State) : Result := .next (((s.setA v).setNZ v).advance len)

/-- CMP, CPX, CPY: N, Z, C from the comparison of a register with `m`, nothing else (R231 to R233). -/
def compareWith (reg m : Byte) (len : Nat) (s : State) : Result :=
  let res := compareBytes reg m
  .next ((((s.setFlag .n res.n).setFlag .z res.z).setFlag .c res.c).advance len)

/-- BIT: N and V from the memory byte, Z from its AND with A (R234). -/
def bitTest (m : Byte) (len : Nat) (s : State) : Result :=
  .next ((((s.setFlag .n (m.getLsbD 7)).setFlag .v (m.getLsbD 6)).setFlag .z (s.a &&& m == 0)).advance len)

/-- INC and DEC: write the new value of the byte at `ea`, N and Z from it (R235, R236). -/
def updateMem (ea : Word) (r : Byte) (len : Nat) (s : State) : Result := .next (((s.write ea r).setNZ r).advance len)

/-- INX and DEX: the new X, N and Z from it (R237, R239). -/
def updateX (v : Byte) (s : State) : Result := .next (((s.setX v).setNZ v).advance 1)

/-- INY and DEY: the new Y, N and Z from it (R238, R240). -/
def updateY (v : Byte) (s : State) : Result := .next (((s.setY v).setNZ v).advance 1)

/-- R225, opcode 61, (Indirect). -/
def execAdcInd (n : Byte) (s : State) : Result :=
  addToA (s.flag .c) (s.read (eaInd n s)) 2 s

/-- R225, opcode 65, Zero Page. -/
def execAdcZp (n : Byte) (s : State) : Result :=
  addToA (s.flag .c) (s.read (eaZp n)) 2 s

/-- R225, opcode 69, Immediate. -/
def execAdcImm (n : Byte) (s : State) : Result :=
  addToA (s.flag .c) n 2 s

/-- R225, opcode 6D, Absolute. -/
def execAdcAbs (nn : Word) (s : State) : Result :=
  addToA (s.flag .c) (s.read nn) 3 s

/-- R225, opcode 71, (Indirect),X. -/
def execAdcIndX (n : Byte) (s : State) : Result :=
  addToA (s.flag .c) (s.read (eaIndX n s)) 2 s

/-- R225, opcode 75, Zero Page,X. -/
def execAdcZpX (n : Byte) (s : State) : Result :=
  addToA (s.flag .c) (s.read (eaZpX n s)) 2 s

/-- R225, opcode 79, Absolute,Y. -/
def execAdcAbsY (nn : Word) (s : State) : Result :=
  addToA (s.flag .c) (s.read (eaAbsY nn s)) 3 s

/-- R225, opcode 7D, Absolute,X. -/
def execAdcAbsX (nn : Word) (s : State) : Result :=
  addToA (s.flag .c) (s.read (eaAbsX nn s)) 3 s

/-- R226, opcode 64, Zero Page. -/
def execAddZp (n : Byte) (s : State) : Result :=
  addToA false (s.read (eaZp n)) 2 s

/-- R226, opcode 74, Zero Page,X. -/
def execAddZpX (n : Byte) (s : State) : Result :=
  addToA false (s.read (eaZpX n s)) 2 s

/-- R226, opcode 89, Immediate. -/
def execAddImm (n : Byte) (s : State) : Result :=
  addToA false n 2 s

/-- R227, opcode E1, (Indirect). -/
def execSbcInd (n : Byte) (s : State) : Result :=
  subFromA (s.read (eaInd n s)) 2 s

/-- R227, opcode E5, Zero Page. -/
def execSbcZp (n : Byte) (s : State) : Result :=
  subFromA (s.read (eaZp n)) 2 s

/-- R227, opcode E9, Immediate. -/
def execSbcImm (n : Byte) (s : State) : Result :=
  subFromA n 2 s

/-- R227, opcode ED, Absolute. -/
def execSbcAbs (nn : Word) (s : State) : Result :=
  subFromA (s.read nn) 3 s

/-- R227, opcode F1, (Indirect),X. -/
def execSbcIndX (n : Byte) (s : State) : Result :=
  subFromA (s.read (eaIndX n s)) 2 s

/-- R227, opcode F5, Zero Page,X. -/
def execSbcZpX (n : Byte) (s : State) : Result :=
  subFromA (s.read (eaZpX n s)) 2 s

/-- R227, opcode F9, Absolute,Y. -/
def execSbcAbsY (nn : Word) (s : State) : Result :=
  subFromA (s.read (eaAbsY nn s)) 3 s

/-- R227, opcode FD, Absolute,X. -/
def execSbcAbsX (nn : Word) (s : State) : Result :=
  subFromA (s.read (eaAbsX nn s)) 3 s

/-- R228, opcode 21, (Indirect). -/
def execAndInd (n : Byte) (s : State) : Result :=
  resultToA (s.a &&& s.read (eaInd n s)) 2 s

/-- R228, opcode 25, Zero Page. -/
def execAndZp (n : Byte) (s : State) : Result :=
  resultToA (s.a &&& s.read (eaZp n)) 2 s

/-- R228, opcode 29, Immediate. -/
def execAndImm (n : Byte) (s : State) : Result :=
  resultToA (s.a &&& n) 2 s

/-- R228, opcode 2D, Absolute. -/
def execAndAbs (nn : Word) (s : State) : Result :=
  resultToA (s.a &&& s.read nn) 3 s

/-- R228, opcode 31, (Indirect),X. -/
def execAndIndX (n : Byte) (s : State) : Result :=
  resultToA (s.a &&& s.read (eaIndX n s)) 2 s

/-- R228, opcode 35, Zero Page,X. -/
def execAndZpX (n : Byte) (s : State) : Result :=
  resultToA (s.a &&& s.read (eaZpX n s)) 2 s

/-- R228, opcode 39, Absolute,Y. -/
def execAndAbsY (nn : Word) (s : State) : Result :=
  resultToA (s.a &&& s.read (eaAbsY nn s)) 3 s

/-- R228, opcode 3D, Absolute,X. -/
def execAndAbsX (nn : Word) (s : State) : Result :=
  resultToA (s.a &&& s.read (eaAbsX nn s)) 3 s

/-- R229, opcode 01, (Indirect). -/
def execOraInd (n : Byte) (s : State) : Result :=
  resultToA (s.a ||| s.read (eaInd n s)) 2 s

/-- R229, opcode 05, Zero Page. -/
def execOraZp (n : Byte) (s : State) : Result :=
  resultToA (s.a ||| s.read (eaZp n)) 2 s

/-- R229, opcode 09, Immediate. -/
def execOraImm (n : Byte) (s : State) : Result :=
  resultToA (s.a ||| n) 2 s

/-- R229, opcode 0D, Absolute. -/
def execOraAbs (nn : Word) (s : State) : Result :=
  resultToA (s.a ||| s.read nn) 3 s

/-- R229, opcode 11, (Indirect),X. -/
def execOraIndX (n : Byte) (s : State) : Result :=
  resultToA (s.a ||| s.read (eaIndX n s)) 2 s

/-- R229, opcode 15, Zero Page,X. -/
def execOraZpX (n : Byte) (s : State) : Result :=
  resultToA (s.a ||| s.read (eaZpX n s)) 2 s

/-- R229, opcode 19, Absolute,Y. -/
def execOraAbsY (nn : Word) (s : State) : Result :=
  resultToA (s.a ||| s.read (eaAbsY nn s)) 3 s

/-- R229, opcode 1D, Absolute,X. -/
def execOraAbsX (nn : Word) (s : State) : Result :=
  resultToA (s.a ||| s.read (eaAbsX nn s)) 3 s

/-- R230, opcode 41, (Indirect). -/
def execEorInd (n : Byte) (s : State) : Result :=
  resultToA (s.a ^^^ s.read (eaInd n s)) 2 s

/-- R230, opcode 45, Zero Page. -/
def execEorZp (n : Byte) (s : State) : Result :=
  resultToA (s.a ^^^ s.read (eaZp n)) 2 s

/-- R230, opcode 49, Immediate. -/
def execEorImm (n : Byte) (s : State) : Result :=
  resultToA (s.a ^^^ n) 2 s

/-- R230, opcode 4D, Absolute. -/
def execEorAbs (nn : Word) (s : State) : Result :=
  resultToA (s.a ^^^ s.read nn) 3 s

/-- R230, opcode 51, (Indirect),X. -/
def execEorIndX (n : Byte) (s : State) : Result :=
  resultToA (s.a ^^^ s.read (eaIndX n s)) 2 s

/-- R230, opcode 55, Zero Page,X. -/
def execEorZpX (n : Byte) (s : State) : Result :=
  resultToA (s.a ^^^ s.read (eaZpX n s)) 2 s

/-- R230, opcode 59, Absolute,Y. -/
def execEorAbsY (nn : Word) (s : State) : Result :=
  resultToA (s.a ^^^ s.read (eaAbsY nn s)) 3 s

/-- R230, opcode 5D, Absolute,X. -/
def execEorAbsX (nn : Word) (s : State) : Result :=
  resultToA (s.a ^^^ s.read (eaAbsX nn s)) 3 s

/-- R231, opcode C1, (Indirect). -/
def execCmpInd (n : Byte) (s : State) : Result :=
  compareWith s.a (s.read (eaInd n s)) 2 s

/-- R231, opcode C5, Zero Page. -/
def execCmpZp (n : Byte) (s : State) : Result :=
  compareWith s.a (s.read (eaZp n)) 2 s

/-- R231, opcode C9, Immediate. -/
def execCmpImm (n : Byte) (s : State) : Result :=
  compareWith s.a n 2 s

/-- R231, opcode CD, Absolute. -/
def execCmpAbs (nn : Word) (s : State) : Result :=
  compareWith s.a (s.read nn) 3 s

/-- R231, opcode D1, (Indirect),X. -/
def execCmpIndX (n : Byte) (s : State) : Result :=
  compareWith s.a (s.read (eaIndX n s)) 2 s

/-- R231, opcode D5, Zero Page,X. -/
def execCmpZpX (n : Byte) (s : State) : Result :=
  compareWith s.a (s.read (eaZpX n s)) 2 s

/-- R231, opcode D9, Absolute,Y. -/
def execCmpAbsY (nn : Word) (s : State) : Result :=
  compareWith s.a (s.read (eaAbsY nn s)) 3 s

/-- R231, opcode DD, Absolute,X. -/
def execCmpAbsX (nn : Word) (s : State) : Result :=
  compareWith s.a (s.read (eaAbsX nn s)) 3 s

/-- R232, opcode E0, Immediate. -/
def execCpxImm (n : Byte) (s : State) : Result :=
  compareWith s.x n 2 s

/-- R232, opcode E4, Zero Page. -/
def execCpxZp (n : Byte) (s : State) : Result :=
  compareWith s.x (s.read (eaZp n)) 2 s

/-- R232, opcode EC, Absolute. -/
def execCpxAbs (nn : Word) (s : State) : Result :=
  compareWith s.x (s.read nn) 3 s

/-- R233, opcode C0, Immediate. -/
def execCpyImm (n : Byte) (s : State) : Result :=
  compareWith s.y n 2 s

/-- R233, opcode C4, Zero Page. -/
def execCpyZp (n : Byte) (s : State) : Result :=
  compareWith s.y (s.read (eaZp n)) 2 s

/-- R233, opcode CC, Absolute. -/
def execCpyAbs (nn : Word) (s : State) : Result :=
  compareWith s.y (s.read nn) 3 s

/-- R234, opcode 24, Zero Page. -/
def execBitZp (n : Byte) (s : State) : Result :=
  bitTest (s.read (eaZp n)) 2 s

/-- R234, opcode 2C, Absolute. -/
def execBitAbs (nn : Word) (s : State) : Result :=
  bitTest (s.read nn) 3 s

/-- R235, opcode E6, Zero Page. -/
def execIncZp (n : Byte) (s : State) : Result :=
  updateMem (eaZp n) (s.read (eaZp n) + 1) 2 s

/-- R235, opcode EE, Absolute. -/
def execIncAbs (nn : Word) (s : State) : Result :=
  updateMem nn (s.read nn + 1) 3 s

/-- R235, opcode F6, Zero Page,X. -/
def execIncZpX (n : Byte) (s : State) : Result :=
  updateMem (eaZpX n s) (s.read (eaZpX n s) + 1) 2 s

/-- R235, opcode FE, Absolute,X. -/
def execIncAbsX (nn : Word) (s : State) : Result :=
  updateMem (eaAbsX nn s) (s.read (eaAbsX nn s) + 1) 3 s

/-- R236, opcode C6, Zero Page. -/
def execDecZp (n : Byte) (s : State) : Result :=
  updateMem (eaZp n) (s.read (eaZp n) - 1) 2 s

/-- R236, opcode CE, Absolute. -/
def execDecAbs (nn : Word) (s : State) : Result :=
  updateMem nn (s.read nn - 1) 3 s

/-- R236, opcode D6, Zero Page,X. -/
def execDecZpX (n : Byte) (s : State) : Result :=
  updateMem (eaZpX n s) (s.read (eaZpX n s) - 1) 2 s

/-- R236, opcode DE, Absolute,X. -/
def execDecAbsX (nn : Word) (s : State) : Result :=
  updateMem (eaAbsX nn s) (s.read (eaAbsX nn s) - 1) 3 s

/-- R237, opcode E8, Implied. -/
def execInx (s : State) : Result :=
  updateX (s.x + 1) s

/-- R238, opcode C8, Implied. -/
def execIny (s : State) : Result :=
  updateY (s.y + 1) s

/-- R239, opcode CA, Implied. -/
def execDex (s : State) : Result :=
  updateX (s.x - 1) s

/-- R240, opcode 88, Implied. -/
def execDey (s : State) : Result :=
  updateY (s.y - 1) s

/-- R241, opcode 1A, Accumulator. -/
def execNeg (s : State) : Result :=
  resultToA (negByte s.a) 1 s

/-- R242, opcode 13, Accumulator. -/
def execLab (s : State) : Result :=
  resultToA (absByte s.a) 1 s

end Sys2Proof.Machine
end

