-- ==== Sys2Proof/Machine/Branch.lean ====
section
/-! DEFINITION. Branches, jumps and subroutines (46_branch_jump.md). No instruction of this file writes a flag. -/

namespace Sys2Proof.Machine

/-- A branch of `len` bytes: to the target if the condition holds, else to the next instruction (R320, R308). -/
def branchIf (taken : Bool) (len : Nat) (r : Byte) (s : State) : Result :=
  let next := s.pc + BitVec.ofNat 16 len
  .next (s.setPc (if taken then branchTarget next r else next))

/-- A subroutine call: push the address of the next instruction, high byte first (R333, R334). -/
def State.pushReturn (s : State) (len : Nat) : State := s.push16 (s.pc + BitVec.ofNat 16 len)

/-- JSB n: the pushes come before the vector reads (R334). -/
def callVector (n : Nat) (s : State) : Result :=
  let pushed := s.pushReturn 1
  .next (pushed.setPc (pushed.readWord (jsbVector n)))

/-- The condition of BCC (R321). -/
def takesBcc (s : State) : Bool := !s.flag .c

/-- R321, opcode 90, Relative. -/
def execBcc (r : Byte) (s : State) : Result :=
  branchIf (takesBcc s) 2 r s

/-- The condition of BCS (R322). -/
def takesBcs (s : State) : Bool := s.flag .c

/-- R322, opcode B0, Relative. -/
def execBcs (r : Byte) (s : State) : Result :=
  branchIf (takesBcs s) 2 r s

/-- The condition of BEQ (R323). -/
def takesBeq (s : State) : Bool := s.flag .z

/-- R323, opcode F0, Relative. -/
def execBeq (r : Byte) (s : State) : Result :=
  branchIf (takesBeq s) 2 r s

/-- The condition of BNE (R324). -/
def takesBne (s : State) : Bool := !s.flag .z

/-- R324, opcode D0, Relative. -/
def execBne (r : Byte) (s : State) : Result :=
  branchIf (takesBne s) 2 r s

/-- The condition of BMI (R325). -/
def takesBmi (s : State) : Bool := s.flag .n

/-- R325, opcode 30, Relative. -/
def execBmi (r : Byte) (s : State) : Result :=
  branchIf (takesBmi s) 2 r s

/-- The condition of BPL (R326). -/
def takesBpl (s : State) : Bool := !s.flag .n

/-- R326, opcode 10, Relative. -/
def execBpl (r : Byte) (s : State) : Result :=
  branchIf (takesBpl s) 2 r s

/-- The condition of BVC (R327). -/
def takesBvc (s : State) : Bool := !s.flag .v

/-- R327, opcode 50, Relative. -/
def execBvc (r : Byte) (s : State) : Result :=
  branchIf (takesBvc s) 2 r s

/-- The condition of BVS (R328). -/
def takesBvs (s : State) : Bool := s.flag .v

/-- R328, opcode 70, Relative. -/
def execBvs (r : Byte) (s : State) : Result :=
  branchIf (takesBvs s) 2 r s

/-- R329, opcode 80, Relative. -/
def execBra (r : Byte) (s : State) : Result :=
  branchIf true 2 r s

/-- R330, opcode 4C, Absolute. -/
def execJmpAbs (nn : Word) (s : State) : Result :=
  .next (s.setPc nn)

/-- R331, opcode 6C, (Absolute). -/
def execJmpInd (nn : Word) (s : State) : Result :=
  .next (s.setPc (targetInd nn s))

/-- R332, opcode 7C, (Absolute,X). -/
def execJmpIndX (nn : Word) (s : State) : Result :=
  .next (s.setPc (targetIndX nn s))

/-- R333, opcode 20, Absolute; the stacked address is that of the next instruction. -/
def execJsr (nn : Word) (s : State) : Result :=
  .next ((s.pushReturn 3).setPc nn)

/-- R334, opcode 0B, Bit/FF Page. -/
def execJsb0 (s : State) : Result :=
  callVector 0 s

/-- R334, opcode 1B, Bit/FF Page. -/
def execJsb1 (s : State) : Result :=
  callVector 1 s

/-- R334, opcode 2B, Bit/FF Page. -/
def execJsb2 (s : State) : Result :=
  callVector 2 s

/-- R334, opcode 3B, Bit/FF Page. -/
def execJsb3 (s : State) : Result :=
  callVector 3 s

/-- R334, opcode 4B, Bit/FF Page. -/
def execJsb4 (s : State) : Result :=
  callVector 4 s

/-- R334, opcode 5B, Bit/FF Page. -/
def execJsb5 (s : State) : Result :=
  callVector 5 s

/-- R334, opcode 6B, Bit/FF Page. -/
def execJsb6 (s : State) : Result :=
  callVector 6 s

/-- R334, opcode 7B, Bit/FF Page. -/
def execJsb7 (s : State) : Result :=
  callVector 7 s

/-- R335, opcode 60, Implied; the pulled address is used as it is. -/
def execRts (s : State) : Result :=
  .next (s.pop16.setPc s.top16)

end Sys2Proof.Machine
end

