-- ==== Sys2Proof/Machine/BitOps.lean ====
section
/-! DEFINITION. Bit manipulation and bit-test branches (45_bit_ops.md). No instruction of this file writes a flag. -/

namespace Sys2Proof.Machine

/-- Clear the masked bits of the byte at `ea` (R300, R302). -/
def State.clearBits (s : State) (ea : Word) (mask : Byte) : State := s.write ea (s.read ea &&& ~~~mask)

/-- Set the masked bits of the byte at `ea` (R301, R303). -/
def State.setBits (s : State) (ea : Word) (mask : Byte) : State := s.write ea (s.read ea ||| mask)

/-- RBA and SBA leave A unspecified (R302, R303; log 26). -/
def State.clobberA (s : State) : State := (s.setA (Config.unspec8 s.draws)).draw 1

/-- The condition of BBR k: bit k of the zero page byte is 0 (R304). -/
def takesBbr (k : Nat) (n : Byte) (s : State) : Bool := !(s.read (eaZp n)).getLsbD k

/-- The condition of BBS k: bit k of the zero page byte is 1 (R305). -/
def takesBbs (k : Nat) (n : Byte) (s : State) : Bool := (s.read (eaZp n)).getLsbD k

/-- The condition of BAR: some masked bit is 0 (R306). -/
def takesBar (nn : Word) (mask : Byte) (s : State) : Bool := (~~~(s.read nn) &&& mask) != 0

/-- The condition of BAS: some masked bit is 1 (R307). -/
def takesBas (nn : Word) (mask : Byte) (s : State) : Bool := (s.read nn &&& mask) != 0

/-- R300, opcode 07, Bit/Zero Page, bit 0. -/
def execRmb0 (n : Byte) (s : State) : Result :=
  .next ((s.clearBits (eaZp n) (bitMask 0)).advance 2)

/-- R300, opcode 17, Bit/Zero Page, bit 1. -/
def execRmb1 (n : Byte) (s : State) : Result :=
  .next ((s.clearBits (eaZp n) (bitMask 1)).advance 2)

/-- R300, opcode 27, Bit/Zero Page, bit 2. -/
def execRmb2 (n : Byte) (s : State) : Result :=
  .next ((s.clearBits (eaZp n) (bitMask 2)).advance 2)

/-- R300, opcode 37, Bit/Zero Page, bit 3. -/
def execRmb3 (n : Byte) (s : State) : Result :=
  .next ((s.clearBits (eaZp n) (bitMask 3)).advance 2)

/-- R300, opcode 47, Bit/Zero Page, bit 4. -/
def execRmb4 (n : Byte) (s : State) : Result :=
  .next ((s.clearBits (eaZp n) (bitMask 4)).advance 2)

/-- R300, opcode 57, Bit/Zero Page, bit 5. -/
def execRmb5 (n : Byte) (s : State) : Result :=
  .next ((s.clearBits (eaZp n) (bitMask 5)).advance 2)

/-- R300, opcode 67, Bit/Zero Page, bit 6. -/
def execRmb6 (n : Byte) (s : State) : Result :=
  .next ((s.clearBits (eaZp n) (bitMask 6)).advance 2)

/-- R300, opcode 77, Bit/Zero Page, bit 7. -/
def execRmb7 (n : Byte) (s : State) : Result :=
  .next ((s.clearBits (eaZp n) (bitMask 7)).advance 2)

/-- R301, opcode 87, Bit/Zero Page, bit 0. -/
def execSmb0 (n : Byte) (s : State) : Result :=
  .next ((s.setBits (eaZp n) (bitMask 0)).advance 2)

/-- R301, opcode 97, Bit/Zero Page, bit 1. -/
def execSmb1 (n : Byte) (s : State) : Result :=
  .next ((s.setBits (eaZp n) (bitMask 1)).advance 2)

/-- R301, opcode A7, Bit/Zero Page, bit 2. -/
def execSmb2 (n : Byte) (s : State) : Result :=
  .next ((s.setBits (eaZp n) (bitMask 2)).advance 2)

/-- R301, opcode B7, Bit/Zero Page, bit 3. -/
def execSmb3 (n : Byte) (s : State) : Result :=
  .next ((s.setBits (eaZp n) (bitMask 3)).advance 2)

/-- R301, opcode C7, Bit/Zero Page, bit 4. -/
def execSmb4 (n : Byte) (s : State) : Result :=
  .next ((s.setBits (eaZp n) (bitMask 4)).advance 2)

/-- R301, opcode D7, Bit/Zero Page, bit 5. -/
def execSmb5 (n : Byte) (s : State) : Result :=
  .next ((s.setBits (eaZp n) (bitMask 5)).advance 2)

/-- R301, opcode E7, Bit/Zero Page, bit 6. -/
def execSmb6 (n : Byte) (s : State) : Result :=
  .next ((s.setBits (eaZp n) (bitMask 6)).advance 2)

/-- R301, opcode F7, Bit/Zero Page, bit 7. -/
def execSmb7 (n : Byte) (s : State) : Result :=
  .next ((s.setBits (eaZp n) (bitMask 7)).advance 2)

/-- R302, opcode C2, Bit/Absolute. -/
def execRba (mask : Byte) (nn : Word) (s : State) : Result :=
  .next (((s.clearBits nn mask).clobberA).advance 4)

/-- R303, opcode D2, Bit/Absolute. -/
def execSba (mask : Byte) (nn : Word) (s : State) : Result :=
  .next (((s.setBits nn mask).clobberA).advance 4)

/-- R304, opcode 0F, Bit/Zero Page,Relative, bit 0. -/
def execBbr0 (n : Byte) (r : Byte) (s : State) : Result :=
  branchIf (takesBbr 0 n s) 3 r s

/-- R304, opcode 1F, Bit/Zero Page,Relative, bit 1. -/
def execBbr1 (n : Byte) (r : Byte) (s : State) : Result :=
  branchIf (takesBbr 1 n s) 3 r s

/-- R304, opcode 2F, Bit/Zero Page,Relative, bit 2. -/
def execBbr2 (n : Byte) (r : Byte) (s : State) : Result :=
  branchIf (takesBbr 2 n s) 3 r s

/-- R304, opcode 3F, Bit/Zero Page,Relative, bit 3. -/
def execBbr3 (n : Byte) (r : Byte) (s : State) : Result :=
  branchIf (takesBbr 3 n s) 3 r s

/-- R304, opcode 4F, Bit/Zero Page,Relative, bit 4. -/
def execBbr4 (n : Byte) (r : Byte) (s : State) : Result :=
  branchIf (takesBbr 4 n s) 3 r s

/-- R304, opcode 5F, Bit/Zero Page,Relative, bit 5. -/
def execBbr5 (n : Byte) (r : Byte) (s : State) : Result :=
  branchIf (takesBbr 5 n s) 3 r s

/-- R304, opcode 6F, Bit/Zero Page,Relative, bit 6. -/
def execBbr6 (n : Byte) (r : Byte) (s : State) : Result :=
  branchIf (takesBbr 6 n s) 3 r s

/-- R304, opcode 7F, Bit/Zero Page,Relative, bit 7. -/
def execBbr7 (n : Byte) (r : Byte) (s : State) : Result :=
  branchIf (takesBbr 7 n s) 3 r s

/-- R305, opcode 8F, Bit/Zero Page,Relative, bit 0. -/
def execBbs0 (n : Byte) (r : Byte) (s : State) : Result :=
  branchIf (takesBbs 0 n s) 3 r s

/-- R305, opcode 9F, Bit/Zero Page,Relative, bit 1. -/
def execBbs1 (n : Byte) (r : Byte) (s : State) : Result :=
  branchIf (takesBbs 1 n s) 3 r s

/-- R305, opcode AF, Bit/Zero Page,Relative, bit 2. -/
def execBbs2 (n : Byte) (r : Byte) (s : State) : Result :=
  branchIf (takesBbs 2 n s) 3 r s

/-- R305, opcode BF, Bit/Zero Page,Relative, bit 3. -/
def execBbs3 (n : Byte) (r : Byte) (s : State) : Result :=
  branchIf (takesBbs 3 n s) 3 r s

/-- R305, opcode CF, Bit/Zero Page,Relative, bit 4. -/
def execBbs4 (n : Byte) (r : Byte) (s : State) : Result :=
  branchIf (takesBbs 4 n s) 3 r s

/-- R305, opcode DF, Bit/Zero Page,Relative, bit 5. -/
def execBbs5 (n : Byte) (r : Byte) (s : State) : Result :=
  branchIf (takesBbs 5 n s) 3 r s

/-- R305, opcode EF, Bit/Zero Page,Relative, bit 6. -/
def execBbs6 (n : Byte) (r : Byte) (s : State) : Result :=
  branchIf (takesBbs 6 n s) 3 r s

/-- R305, opcode FF, Bit/Zero Page,Relative, bit 7. -/
def execBbs7 (n : Byte) (r : Byte) (s : State) : Result :=
  branchIf (takesBbs 7 n s) 3 r s

/-- R306, opcode E2, Bit/Absolute,Relative. -/
def execBar (nn : Word) (mask : Byte) (r : Byte) (s : State) : Result :=
  branchIf (takesBar nn mask s) 5 r s

/-- R307, opcode F2, Bit/Absolute,Relative. -/
def execBas (nn : Word) (mask : Byte) (r : Byte) (s : State) : Result :=
  branchIf (takesBas nn mask s) 5 r s

end Sys2Proof.Machine
end

