-- ==== Sys2Proof/Machine/FlagSystem.lean ====
section
/-! DEFINITION. Flag instructions, NOP, BRK and RTI (49_flags_system.md). -/

namespace Sys2Proof.Machine

/-- R410, opcode 18, Implied. -/
def execClc (s : State) : Result :=
  .next ((s.setFlag .c false).advance 1)

/-- R411, opcode 38, Implied. -/
def execSec (s : State) : Result :=
  .next ((s.setFlag .c true).advance 1)

/-- R412, opcode D8, Implied. -/
def execCld (s : State) : Result :=
  .next ((s.setFlag .d false).advance 1)

/-- R413, opcode F8, Implied. -/
def execSed (s : State) : Result :=
  .next ((s.setFlag .d true).advance 1)

/-- R414, opcode 58, Implied. -/
def execCli (s : State) : Result :=
  .next ((s.setFlag .i false).advance 1)

/-- R415, opcode 78, Implied. -/
def execSei (s : State) : Result :=
  .next ((s.setFlag .i true).advance 1)

/-- R416, opcode B8, Implied. -/
def execClv (s : State) : Result :=
  .next ((s.setFlag .v false).advance 1)

/-- R417, opcode EA, Implied. -/
def execNop (s : State) : Result :=
  .next (s.advance 1)

/-- R418, opcode 00, Implied; takes the break exception. -/
def execBrk (s : State) : Result :=
  .next (s.breakEntry brkVector brkPushedPcOffset brkStackedB)

/-- R419, opcode 40, Implied. -/
def execRti (s : State) : Result :=
  .next s.returnFromException

end Sys2Proof.Machine
end

