-- ==== Sys2Proof/Machine/LoadStore.lean ====
section
/-! DEFINITION. Loads, stores, register transfers and the exchange (41_load_store_transfer.md). -/

namespace Sys2Proof.Machine

/-- LDA of the value `m` by an instruction of `len` bytes (R180). -/
def loadA (m : Byte) (len : Nat) (s : State) : Result := .next (((s.setA m).setNZ m).advance len)

/-- LDX of the value `m` (R181). -/
def loadX (m : Byte) (len : Nat) (s : State) : Result := .next (((s.setX m).setNZ m).advance len)

/-- LDY of the value `m` (R182). -/
def loadY (m : Byte) (len : Nat) (s : State) : Result := .next (((s.setY m).setNZ m).advance len)

/-- A store of `v` at `ea`: one write, no read of `ea`, no flag (R183 to R186, R140). -/
def storeByte (ea : Word) (v : Byte) (len : Nat) (s : State) : Result := .next ((s.write ea v).advance len)

/-- R180, opcode A1, (Indirect). -/
def execLdaInd (n : Byte) (s : State) : Result :=
  loadA (s.read (eaInd n s)) 2 s

/-- R180, opcode A5, Zero Page. -/
def execLdaZp (n : Byte) (s : State) : Result :=
  loadA (s.read (eaZp n)) 2 s

/-- R180, opcode A9, Immediate. -/
def execLdaImm (n : Byte) (s : State) : Result :=
  loadA n 2 s

/-- R180, opcode AD, Absolute. -/
def execLdaAbs (nn : Word) (s : State) : Result :=
  loadA (s.read nn) 3 s

/-- R180, opcode B1, (Indirect),X. -/
def execLdaIndX (n : Byte) (s : State) : Result :=
  loadA (s.read (eaIndX n s)) 2 s

/-- R180, opcode B5, Zero Page,X. -/
def execLdaZpX (n : Byte) (s : State) : Result :=
  loadA (s.read (eaZpX n s)) 2 s

/-- R180, opcode B9, Absolute,Y. -/
def execLdaAbsY (nn : Word) (s : State) : Result :=
  loadA (s.read (eaAbsY nn s)) 3 s

/-- R180, opcode BD, Absolute,X. -/
def execLdaAbsX (nn : Word) (s : State) : Result :=
  loadA (s.read (eaAbsX nn s)) 3 s

/-- R181, opcode A2, Immediate. -/
def execLdxImm (n : Byte) (s : State) : Result :=
  loadX n 2 s

/-- R181, opcode A6, Zero Page. -/
def execLdxZp (n : Byte) (s : State) : Result :=
  loadX (s.read (eaZp n)) 2 s

/-- R181, opcode AE, Absolute. -/
def execLdxAbs (nn : Word) (s : State) : Result :=
  loadX (s.read nn) 3 s

/-- R181, opcode B6, Zero Page,Y. -/
def execLdxZpY (n : Byte) (s : State) : Result :=
  loadX (s.read (eaZpY n s)) 2 s

/-- R181, opcode BE, Absolute,Y. -/
def execLdxAbsY (nn : Word) (s : State) : Result :=
  loadX (s.read (eaAbsY nn s)) 3 s

/-- R182, opcode A0, Immediate. -/
def execLdyImm (n : Byte) (s : State) : Result :=
  loadY n 2 s

/-- R182, opcode A4, Zero Page. -/
def execLdyZp (n : Byte) (s : State) : Result :=
  loadY (s.read (eaZp n)) 2 s

/-- R182, opcode AC, Absolute. -/
def execLdyAbs (nn : Word) (s : State) : Result :=
  loadY (s.read nn) 3 s

/-- R182, opcode B4, Zero Page,X. -/
def execLdyZpX (n : Byte) (s : State) : Result :=
  loadY (s.read (eaZpX n s)) 2 s

/-- R182, opcode BC, Absolute,X. -/
def execLdyAbsX (nn : Word) (s : State) : Result :=
  loadY (s.read (eaAbsX nn s)) 3 s

/-- R183, opcode 81, (Indirect). -/
def execStaInd (n : Byte) (s : State) : Result :=
  storeByte (eaInd n s) s.a 2 s

/-- R183, opcode 85, Zero Page. -/
def execStaZp (n : Byte) (s : State) : Result :=
  storeByte (eaZp n) s.a 2 s

/-- R183, opcode 8D, Absolute. -/
def execStaAbs (nn : Word) (s : State) : Result :=
  storeByte nn s.a 3 s

/-- R183, opcode 91, (Indirect),X. -/
def execStaIndX (n : Byte) (s : State) : Result :=
  storeByte (eaIndX n s) s.a 2 s

/-- R183, opcode 95, Zero Page,X. -/
def execStaZpX (n : Byte) (s : State) : Result :=
  storeByte (eaZpX n s) s.a 2 s

/-- R183, opcode 99, Absolute,Y. -/
def execStaAbsY (nn : Word) (s : State) : Result :=
  storeByte (eaAbsY nn s) s.a 3 s

/-- R183, opcode 9D, Absolute,X. -/
def execStaAbsX (nn : Word) (s : State) : Result :=
  storeByte (eaAbsX nn s) s.a 3 s

/-- R184, opcode 86, Zero Page. -/
def execStxZp (n : Byte) (s : State) : Result :=
  storeByte (eaZp n) s.x 2 s

/-- R184, opcode 8E, Absolute. -/
def execStxAbs (nn : Word) (s : State) : Result :=
  storeByte nn s.x 3 s

/-- R184, opcode 96, Zero Page,Y. -/
def execStxZpY (n : Byte) (s : State) : Result :=
  storeByte (eaZpY n s) s.x 2 s

/-- R185, opcode 84, Zero Page. -/
def execStyZp (n : Byte) (s : State) : Result :=
  storeByte (eaZp n) s.y 2 s

/-- R185, opcode 8C, Absolute. -/
def execStyAbs (nn : Word) (s : State) : Result :=
  storeByte nn s.y 3 s

/-- R185, opcode 94, Zero Page,X. -/
def execStyZpX (n : Byte) (s : State) : Result :=
  storeByte (eaZpX n s) s.y 2 s

/-- R186, opcode B2, Immediate,Zero Page. -/
def execSti (data : Byte) (n : Byte) (s : State) : Result :=
  storeByte (eaZp n) data 3 s

/-- R187, opcode AA, Implied. -/
def execTax (s : State) : Result :=
  loadX s.a 1 s

/-- R188, opcode A8, Implied. -/
def execTay (s : State) : Result :=
  loadY s.a 1 s

/-- R189, opcode 8A, Implied. -/
def execTxa (s : State) : Result :=
  loadA s.x 1 s

/-- R190, opcode 98, Implied. -/
def execTya (s : State) : Result :=
  loadA s.y 1 s

/-- R191, opcode BA, Implied. -/
def execTsx (s : State) : Result :=
  loadX s.sp 1 s

/-- R192, opcode 9A, Implied; the one transfer that writes no flag. -/
def execTxs (s : State) : Result :=
  .next ((s.setSp s.x).advance 1)

/-- R193, opcode D4, Zero Page,X; the byte written is the old A, the new A sets no flag. -/
def execExc (n : Byte) (s : State) : Result :=
  .next (((s.write (eaZpX n s) s.a).setA (s.read (eaZpX n s))).advance 2)

end Sys2Proof.Machine
end

