-- ==== Sys2Proof/Machine/MultiplyW.lean ====
section
/-! DEFINITION. Multiply, multiply-accumulate, round and the W register (44_multiply_w.md). -/

namespace Sys2Proof.Machine

/-- RND's overflow case: WH = 0x7F and bit 7 of WL set (R282). -/
def rndOverflows (w : Word) : Bool := hiByte w == 0x7F && (loByte w).getLsbD 7

/-- RND's rounded byte when it does not overflow: WH plus the most significant bit of WL (R282). -/
def rndByte (w : Word) : Byte := hiByte w + (if (loByte w).getLsbD 7 then 1 else 0)

/-- R280, opcode 02, Implied. -/
def execMpy (s : State) : Result :=
  let p := signedProduct s.a s.y
  .next (((((s.setA (hiByte p)).setY (loByte p)).setFlag .n (hiByte p).msb).setFlag .v false).advance 1)

/-- R281, opcode 12, Implied; Y is left unspecified (log 25). -/
def execMpa (s : State) : Result :=
  let acc := accumulate s.w s.a s.y
  .next ((((((s.setW acc.w).setFlag .v acc.v).setFlag .n acc.w.msb).setY (Config.unspec8 s.draws)).draw 1).advance 1)

/-- R282, opcode 42, Implied; Y is left unspecified on overflow only (log 25). -/
def execRnd (s : State) : Result :=
  if rndOverflows s.w then
    .next ((((((s.setA 0x7F).setFlag .v true).setY (Config.unspec8 s.draws)).draw 1).setFlag .n false).advance 1)
  else
    .next ((((s.setA (rndByte s.w)).setFlag .v false).setFlag .n (rndByte s.w).msb).advance 1)

/-- R283, opcode 52, Implied. -/
def execClw (s : State) : Result :=
  .next (((s.setW 0x0000).setFlag .v false).advance 1)

/-- R284, opcode 62, Implied. -/
def execTaw (s : State) : Result :=
  .next (((s.setW (joinBytes s.a 0x00)).setNZ s.a).advance 1)

/-- R285, opcode 72, Implied. -/
def execTwa (s : State) : Result :=
  .next (((s.setA (hiByte s.w)).setNZ (hiByte s.w)).advance 1)

/-- R286, opcode 23, Implied. -/
def execPhw (s : State) : Result :=
  .next ((s.push16 s.w).advance 1)

/-- R287, opcode 33, Implied. -/
def execPlw (s : State) : Result :=
  .next ((s.pop16.setW s.top16).advance 1)

end Sys2Proof.Machine
end

