-- ==== Sys2Proof/Machine/Shift.lean ====
section
/-! DEFINITION. Shifts and rotates (43_shift_rotate.md). -/

namespace Sys2Proof.Machine

/-- Write N, Z and C of a shift (R265). -/
def State.applyShift (s : State) (res : ShiftResult) : State :=
  ((s.setFlag .n res.n).setFlag .z res.z).setFlag .c res.c

/-- The Accumulator form: A in and out, memory untouched (R265). -/
def shiftAcc (f : Byte → Bool → ShiftResult) (s : State) : Result :=
  let res := f s.a (s.flag .c)
  .next (((s.setA res.r).applyShift res).advance 1)

/-- A memory form: the byte at `ea` in and out, A untouched (R265, R67). -/
def shiftMem (f : Byte → Bool → ShiftResult) (ea : Word) (len : Nat) (s : State) : Result :=
  let res := f (s.read ea) (s.flag .c)
  .next (((s.write ea res.r).applyShift res).advance len)

/-- R260, opcode 06, Zero Page. -/
def execAslZp (n : Byte) (s : State) : Result :=
  shiftMem aslByte (eaZp n) 2 s

/-- R260, opcode 0A, Accumulator. -/
def execAslAcc (s : State) : Result :=
  shiftAcc aslByte s

/-- R260, opcode 0E, Absolute. -/
def execAslAbs (nn : Word) (s : State) : Result :=
  shiftMem aslByte nn 3 s

/-- R260, opcode 16, Zero Page,X. -/
def execAslZpX (n : Byte) (s : State) : Result :=
  shiftMem aslByte (eaZpX n s) 2 s

/-- R260, opcode 1E, Absolute,X. -/
def execAslAbsX (nn : Word) (s : State) : Result :=
  shiftMem aslByte (eaAbsX nn s) 3 s

/-- R261, opcode 46, Zero Page. -/
def execLsrZp (n : Byte) (s : State) : Result :=
  shiftMem lsrByte (eaZp n) 2 s

/-- R261, opcode 4A, Accumulator. -/
def execLsrAcc (s : State) : Result :=
  shiftAcc lsrByte s

/-- R261, opcode 4E, Absolute. -/
def execLsrAbs (nn : Word) (s : State) : Result :=
  shiftMem lsrByte nn 3 s

/-- R261, opcode 56, Zero Page,X. -/
def execLsrZpX (n : Byte) (s : State) : Result :=
  shiftMem lsrByte (eaZpX n s) 2 s

/-- R261, opcode 5E, Absolute,X. -/
def execLsrAbsX (nn : Word) (s : State) : Result :=
  shiftMem lsrByte (eaAbsX nn s) 3 s

/-- R262, opcode 26, Zero Page. -/
def execRolZp (n : Byte) (s : State) : Result :=
  shiftMem rolByte (eaZp n) 2 s

/-- R262, opcode 2A, Accumulator. -/
def execRolAcc (s : State) : Result :=
  shiftAcc rolByte s

/-- R262, opcode 2E, Absolute. -/
def execRolAbs (nn : Word) (s : State) : Result :=
  shiftMem rolByte nn 3 s

/-- R262, opcode 36, Zero Page,X. -/
def execRolZpX (n : Byte) (s : State) : Result :=
  shiftMem rolByte (eaZpX n s) 2 s

/-- R262, opcode 3E, Absolute,X. -/
def execRolAbsX (nn : Word) (s : State) : Result :=
  shiftMem rolByte (eaAbsX nn s) 3 s

/-- R263, opcode 66, Zero Page. -/
def execRorZp (n : Byte) (s : State) : Result :=
  shiftMem rorByte (eaZp n) 2 s

/-- R263, opcode 6A, Accumulator. -/
def execRorAcc (s : State) : Result :=
  shiftAcc rorByte s

/-- R263, opcode 6E, Absolute. -/
def execRorAbs (nn : Word) (s : State) : Result :=
  shiftMem rorByte nn 3 s

/-- R263, opcode 76, Zero Page,X. -/
def execRorZpX (n : Byte) (s : State) : Result :=
  shiftMem rorByte (eaZpX n s) 2 s

/-- R263, opcode 7E, Absolute,X. -/
def execRorAbsX (nn : Word) (s : State) : Result :=
  shiftMem rorByte (eaAbsX nn s) 3 s

/-- R264, opcode 3A, Accumulator. -/
def execAsr (s : State) : Result :=
  shiftAcc (fun t _ => asrByte t) s

end Sys2Proof.Machine
end

