-- ==== Sys2Proof/Machine/Stack.lean ====
section
/-! DEFINITION. Pushes and pulls (47_stack.md). The pushes and PUL write no flag. -/

namespace Sys2Proof.Machine

/-- R361, opcode 48, Implied. -/
def execPha (s : State) : Result :=
  .next ((s.push8 s.a).advance 1)

/-- R362, opcode 08, Implied; P as stored, all eight bits. -/
def execPhp (s : State) : Result :=
  .next ((s.push8 s.p).advance 1)

/-- R363, opcode DA, Implied. -/
def execPhx (s : State) : Result :=
  .next ((s.push8 s.x).advance 1)

/-- R364, opcode 5A, Implied. -/
def execPhy (s : State) : Result :=
  .next ((s.push8 s.y).advance 1)

/-- R369, opcode 22, Implied. -/
def execPsh (s : State) : Result :=
  .next ((((s.push8 s.a).push8 s.x).push8 s.y).advance 1)

/-- R365, opcode 68, Implied. -/
def execPla (s : State) : Result :=
  .next (((s.pop8.setA s.top8).setNZ s.top8).advance 1)

/-- R366, opcode 28, Implied; six bits of P. -/
def execPlp (s : State) : Result :=
  .next ((s.pop8.setP (restoredP s.p s.top8)).advance 1)

/-- R367, opcode FA, Implied. -/
def execPlx (s : State) : Result :=
  .next (((s.pop8.setX s.top8).setNZ s.top8).advance 1)

/-- R368, opcode 7A, Implied. -/
def execPly (s : State) : Result :=
  .next (((s.pop8.setY s.top8).setNZ s.top8).advance 1)

/-- R370, opcode 32, Implied; Y, X, A in this order, no flag. -/
def execPul (s : State) : Result :=
  .next (((((s.pop8.pop8.pop8).setY s.top8).setX s.pop8.top8).setA s.pop8.pop8.top8).advance 1)

end Sys2Proof.Machine
end

