-- ==== Sys2Proof/Machine/Threaded.lean ====
section
/-! DEFINITION. Threaded code: the only instructions that read or write the I register (48_threaded.md). PIA alone writes flags. -/

namespace Sys2Proof.Machine

/-- R390, opcode 8B, Implied; both bytes are read with the old I. -/
def execNxt (s : State) : Result :=
  .next ((s.setPc (s.readWord s.ireg)).setIreg (s.ireg + 2))

/-- R391, opcode 9B, Implied. -/
def execLii (s : State) : Result :=
  .next ((s.setIreg (s.readWord s.ireg)).advance 1)

/-- R392, opcode EB, Implied; no flag. -/
def execLai (s : State) : Result :=
  .next ((s.setA (s.read s.ireg)).advance 1)

/-- R393, opcode AB, Implied; no flag. -/
def execLan (s : State) : Result :=
  .next (((s.setA (s.read s.ireg)).setIreg (s.ireg + 1)).advance 1)

/-- R394, opcode BB, Implied. -/
def execIni (s : State) : Result :=
  .next ((s.setIreg (s.ireg + 1)).advance 1)

/-- R395, opcode CB, Implied. -/
def execPhi (s : State) : Result :=
  .next ((s.push16 s.ireg).advance 1)

/-- R396, opcode DB, Implied. -/
def execPli (s : State) : Result :=
  .next ((s.pop16.setIreg s.top16).advance 1)

/-- R397, opcode 0C, (Absolute). -/
def execJpi (nn : Word) (s : State) : Result :=
  .next ((s.setIreg (s.pc + 3)).setPc (targetInd nn s))

/-- R398, opcode 03, Implied. -/
def execTip (s : State) : Result :=
  .next (s.setPc s.ireg)

/-- R399, opcode FB, Implied; X is loaded too (log 38). -/
def execPia (s : State) : Result :=
  let t := s.read s.top16
  .next (((((s.pop16.setIreg (s.top16 + 1)).setA t).setX t).setNZ t).advance 1)

end Sys2Proof.Machine
end

