-- ==== Sys2Proof/Machine/Dispatch.lean ====
section
/-! DEFINITION. One arm per instruction, each the call of its meaning. -/

namespace Sys2Proof.Machine

def exec (i : Instr) (s : State) : Host.Outcome State Fault Refusal :=
  match i with
  | .ldaInd n => Sys2Proof.Machine.execLdaInd n s
  | .ldaZp n => Sys2Proof.Machine.execLdaZp n s
  | .ldaImm n => Sys2Proof.Machine.execLdaImm n s
  | .ldaAbs nn => Sys2Proof.Machine.execLdaAbs nn s
  | .ldaIndX n => Sys2Proof.Machine.execLdaIndX n s
  | .ldaZpX n => Sys2Proof.Machine.execLdaZpX n s
  | .ldaAbsY nn => Sys2Proof.Machine.execLdaAbsY nn s
  | .ldaAbsX nn => Sys2Proof.Machine.execLdaAbsX nn s
  | .ldxImm n => Sys2Proof.Machine.execLdxImm n s
  | .ldxZp n => Sys2Proof.Machine.execLdxZp n s
  | .ldxAbs nn => Sys2Proof.Machine.execLdxAbs nn s
  | .ldxZpY n => Sys2Proof.Machine.execLdxZpY n s
  | .ldxAbsY nn => Sys2Proof.Machine.execLdxAbsY nn s
  | .ldyImm n => Sys2Proof.Machine.execLdyImm n s
  | .ldyZp n => Sys2Proof.Machine.execLdyZp n s
  | .ldyAbs nn => Sys2Proof.Machine.execLdyAbs nn s
  | .ldyZpX n => Sys2Proof.Machine.execLdyZpX n s
  | .ldyAbsX nn => Sys2Proof.Machine.execLdyAbsX nn s
  | .staInd n => Sys2Proof.Machine.execStaInd n s
  | .staZp n => Sys2Proof.Machine.execStaZp n s
  | .staAbs nn => Sys2Proof.Machine.execStaAbs nn s
  | .staIndX n => Sys2Proof.Machine.execStaIndX n s
  | .staZpX n => Sys2Proof.Machine.execStaZpX n s
  | .staAbsY nn => Sys2Proof.Machine.execStaAbsY nn s
  | .staAbsX nn => Sys2Proof.Machine.execStaAbsX nn s
  | .stxZp n => Sys2Proof.Machine.execStxZp n s
  | .stxAbs nn => Sys2Proof.Machine.execStxAbs nn s
  | .stxZpY n => Sys2Proof.Machine.execStxZpY n s
  | .styZp n => Sys2Proof.Machine.execStyZp n s
  | .styAbs nn => Sys2Proof.Machine.execStyAbs nn s
  | .styZpX n => Sys2Proof.Machine.execStyZpX n s
  | .sti data n => Sys2Proof.Machine.execSti data n s
  | .tax => Sys2Proof.Machine.execTax s
  | .tay => Sys2Proof.Machine.execTay s
  | .txa => Sys2Proof.Machine.execTxa s
  | .tya => Sys2Proof.Machine.execTya s
  | .tsx => Sys2Proof.Machine.execTsx s
  | .txs => Sys2Proof.Machine.execTxs s
  | .exc n => Sys2Proof.Machine.execExc n s
  | .adcInd n => Sys2Proof.Machine.execAdcInd n s
  | .adcZp n => Sys2Proof.Machine.execAdcZp n s
  | .adcImm n => Sys2Proof.Machine.execAdcImm n s
  | .adcAbs nn => Sys2Proof.Machine.execAdcAbs nn s
  | .adcIndX n => Sys2Proof.Machine.execAdcIndX n s
  | .adcZpX n => Sys2Proof.Machine.execAdcZpX n s
  | .adcAbsY nn => Sys2Proof.Machine.execAdcAbsY nn s
  | .adcAbsX nn => Sys2Proof.Machine.execAdcAbsX nn s
  | .addZp n => Sys2Proof.Machine.execAddZp n s
  | .addZpX n => Sys2Proof.Machine.execAddZpX n s
  | .addImm n => Sys2Proof.Machine.execAddImm n s
  | .sbcInd n => Sys2Proof.Machine.execSbcInd n s
  | .sbcZp n => Sys2Proof.Machine.execSbcZp n s
  | .sbcImm n => Sys2Proof.Machine.execSbcImm n s
  | .sbcAbs nn => Sys2Proof.Machine.execSbcAbs nn s
  | .sbcIndX n => Sys2Proof.Machine.execSbcIndX n s
  | .sbcZpX n => Sys2Proof.Machine.execSbcZpX n s
  | .sbcAbsY nn => Sys2Proof.Machine.execSbcAbsY nn s
  | .sbcAbsX nn => Sys2Proof.Machine.execSbcAbsX nn s
  | .andInd n => Sys2Proof.Machine.execAndInd n s
  | .andZp n => Sys2Proof.Machine.execAndZp n s
  | .andImm n => Sys2Proof.Machine.execAndImm n s
  | .andAbs nn => Sys2Proof.Machine.execAndAbs nn s
  | .andIndX n => Sys2Proof.Machine.execAndIndX n s
  | .andZpX n => Sys2Proof.Machine.execAndZpX n s
  | .andAbsY nn => Sys2Proof.Machine.execAndAbsY nn s
  | .andAbsX nn => Sys2Proof.Machine.execAndAbsX nn s
  | .oraInd n => Sys2Proof.Machine.execOraInd n s
  | .oraZp n => Sys2Proof.Machine.execOraZp n s
  | .oraImm n => Sys2Proof.Machine.execOraImm n s
  | .oraAbs nn => Sys2Proof.Machine.execOraAbs nn s
  | .oraIndX n => Sys2Proof.Machine.execOraIndX n s
  | .oraZpX n => Sys2Proof.Machine.execOraZpX n s
  | .oraAbsY nn => Sys2Proof.Machine.execOraAbsY nn s
  | .oraAbsX nn => Sys2Proof.Machine.execOraAbsX nn s
  | .eorInd n => Sys2Proof.Machine.execEorInd n s
  | .eorZp n => Sys2Proof.Machine.execEorZp n s
  | .eorImm n => Sys2Proof.Machine.execEorImm n s
  | .eorAbs nn => Sys2Proof.Machine.execEorAbs nn s
  | .eorIndX n => Sys2Proof.Machine.execEorIndX n s
  | .eorZpX n => Sys2Proof.Machine.execEorZpX n s
  | .eorAbsY nn => Sys2Proof.Machine.execEorAbsY nn s
  | .eorAbsX nn => Sys2Proof.Machine.execEorAbsX nn s
  | .cmpInd n => Sys2Proof.Machine.execCmpInd n s
  | .cmpZp n => Sys2Proof.Machine.execCmpZp n s
  | .cmpImm n => Sys2Proof.Machine.execCmpImm n s
  | .cmpAbs nn => Sys2Proof.Machine.execCmpAbs nn s
  | .cmpIndX n => Sys2Proof.Machine.execCmpIndX n s
  | .cmpZpX n => Sys2Proof.Machine.execCmpZpX n s
  | .cmpAbsY nn => Sys2Proof.Machine.execCmpAbsY nn s
  | .cmpAbsX nn => Sys2Proof.Machine.execCmpAbsX nn s
  | .cpxImm n => Sys2Proof.Machine.execCpxImm n s
  | .cpxZp n => Sys2Proof.Machine.execCpxZp n s
  | .cpxAbs nn => Sys2Proof.Machine.execCpxAbs nn s
  | .cpyImm n => Sys2Proof.Machine.execCpyImm n s
  | .cpyZp n => Sys2Proof.Machine.execCpyZp n s
  | .cpyAbs nn => Sys2Proof.Machine.execCpyAbs nn s
  | .bitZp n => Sys2Proof.Machine.execBitZp n s
  | .bitAbs nn => Sys2Proof.Machine.execBitAbs nn s
  | .incZp n => Sys2Proof.Machine.execIncZp n s
  | .incAbs nn => Sys2Proof.Machine.execIncAbs nn s
  | .incZpX n => Sys2Proof.Machine.execIncZpX n s
  | .incAbsX nn => Sys2Proof.Machine.execIncAbsX nn s
  | .decZp n => Sys2Proof.Machine.execDecZp n s
  | .decAbs nn => Sys2Proof.Machine.execDecAbs nn s
  | .decZpX n => Sys2Proof.Machine.execDecZpX n s
  | .decAbsX nn => Sys2Proof.Machine.execDecAbsX nn s
  | .inx => Sys2Proof.Machine.execInx s
  | .iny => Sys2Proof.Machine.execIny s
  | .dex => Sys2Proof.Machine.execDex s
  | .dey => Sys2Proof.Machine.execDey s
  | .neg => Sys2Proof.Machine.execNeg s
  | .lab => Sys2Proof.Machine.execLab s
  | .aslZp n => Sys2Proof.Machine.execAslZp n s
  | .aslAcc => Sys2Proof.Machine.execAslAcc s
  | .aslAbs nn => Sys2Proof.Machine.execAslAbs nn s
  | .aslZpX n => Sys2Proof.Machine.execAslZpX n s
  | .aslAbsX nn => Sys2Proof.Machine.execAslAbsX nn s
  | .lsrZp n => Sys2Proof.Machine.execLsrZp n s
  | .lsrAcc => Sys2Proof.Machine.execLsrAcc s
  | .lsrAbs nn => Sys2Proof.Machine.execLsrAbs nn s
  | .lsrZpX n => Sys2Proof.Machine.execLsrZpX n s
  | .lsrAbsX nn => Sys2Proof.Machine.execLsrAbsX nn s
  | .rolZp n => Sys2Proof.Machine.execRolZp n s
  | .rolAcc => Sys2Proof.Machine.execRolAcc s
  | .rolAbs nn => Sys2Proof.Machine.execRolAbs nn s
  | .rolZpX n => Sys2Proof.Machine.execRolZpX n s
  | .rolAbsX nn => Sys2Proof.Machine.execRolAbsX nn s
  | .rorZp n => Sys2Proof.Machine.execRorZp n s
  | .rorAcc => Sys2Proof.Machine.execRorAcc s
  | .rorAbs nn => Sys2Proof.Machine.execRorAbs nn s
  | .rorZpX n => Sys2Proof.Machine.execRorZpX n s
  | .rorAbsX nn => Sys2Proof.Machine.execRorAbsX nn s
  | .asr => Sys2Proof.Machine.execAsr s
  | .mpy => Sys2Proof.Machine.execMpy s
  | .mpa => Sys2Proof.Machine.execMpa s
  | .rnd => Sys2Proof.Machine.execRnd s
  | .clw => Sys2Proof.Machine.execClw s
  | .taw => Sys2Proof.Machine.execTaw s
  | .twa => Sys2Proof.Machine.execTwa s
  | .phw => Sys2Proof.Machine.execPhw s
  | .plw => Sys2Proof.Machine.execPlw s
  | .bcc r => Sys2Proof.Machine.execBcc r s
  | .bcs r => Sys2Proof.Machine.execBcs r s
  | .beq r => Sys2Proof.Machine.execBeq r s
  | .bne r => Sys2Proof.Machine.execBne r s
  | .bmi r => Sys2Proof.Machine.execBmi r s
  | .bpl r => Sys2Proof.Machine.execBpl r s
  | .bvc r => Sys2Proof.Machine.execBvc r s
  | .bvs r => Sys2Proof.Machine.execBvs r s
  | .bra r => Sys2Proof.Machine.execBra r s
  | .jmpAbs nn => Sys2Proof.Machine.execJmpAbs nn s
  | .jmpInd nn => Sys2Proof.Machine.execJmpInd nn s
  | .jmpIndX nn => Sys2Proof.Machine.execJmpIndX nn s
  | .jsr nn => Sys2Proof.Machine.execJsr nn s
  | .jsb0 => Sys2Proof.Machine.execJsb0 s
  | .jsb1 => Sys2Proof.Machine.execJsb1 s
  | .jsb2 => Sys2Proof.Machine.execJsb2 s
  | .jsb3 => Sys2Proof.Machine.execJsb3 s
  | .jsb4 => Sys2Proof.Machine.execJsb4 s
  | .jsb5 => Sys2Proof.Machine.execJsb5 s
  | .jsb6 => Sys2Proof.Machine.execJsb6 s
  | .jsb7 => Sys2Proof.Machine.execJsb7 s
  | .rts => Sys2Proof.Machine.execRts s
  | .rmb0 n => Sys2Proof.Machine.execRmb0 n s
  | .rmb1 n => Sys2Proof.Machine.execRmb1 n s
  | .rmb2 n => Sys2Proof.Machine.execRmb2 n s
  | .rmb3 n => Sys2Proof.Machine.execRmb3 n s
  | .rmb4 n => Sys2Proof.Machine.execRmb4 n s
  | .rmb5 n => Sys2Proof.Machine.execRmb5 n s
  | .rmb6 n => Sys2Proof.Machine.execRmb6 n s
  | .rmb7 n => Sys2Proof.Machine.execRmb7 n s
  | .smb0 n => Sys2Proof.Machine.execSmb0 n s
  | .smb1 n => Sys2Proof.Machine.execSmb1 n s
  | .smb2 n => Sys2Proof.Machine.execSmb2 n s
  | .smb3 n => Sys2Proof.Machine.execSmb3 n s
  | .smb4 n => Sys2Proof.Machine.execSmb4 n s
  | .smb5 n => Sys2Proof.Machine.execSmb5 n s
  | .smb6 n => Sys2Proof.Machine.execSmb6 n s
  | .smb7 n => Sys2Proof.Machine.execSmb7 n s
  | .rba mask nn => Sys2Proof.Machine.execRba mask nn s
  | .sba mask nn => Sys2Proof.Machine.execSba mask nn s
  | .bbr0 n r => Sys2Proof.Machine.execBbr0 n r s
  | .bbr1 n r => Sys2Proof.Machine.execBbr1 n r s
  | .bbr2 n r => Sys2Proof.Machine.execBbr2 n r s
  | .bbr3 n r => Sys2Proof.Machine.execBbr3 n r s
  | .bbr4 n r => Sys2Proof.Machine.execBbr4 n r s
  | .bbr5 n r => Sys2Proof.Machine.execBbr5 n r s
  | .bbr6 n r => Sys2Proof.Machine.execBbr6 n r s
  | .bbr7 n r => Sys2Proof.Machine.execBbr7 n r s
  | .bbs0 n r => Sys2Proof.Machine.execBbs0 n r s
  | .bbs1 n r => Sys2Proof.Machine.execBbs1 n r s
  | .bbs2 n r => Sys2Proof.Machine.execBbs2 n r s
  | .bbs3 n r => Sys2Proof.Machine.execBbs3 n r s
  | .bbs4 n r => Sys2Proof.Machine.execBbs4 n r s
  | .bbs5 n r => Sys2Proof.Machine.execBbs5 n r s
  | .bbs6 n r => Sys2Proof.Machine.execBbs6 n r s
  | .bbs7 n r => Sys2Proof.Machine.execBbs7 n r s
  | .bar nn mask r => Sys2Proof.Machine.execBar nn mask r s
  | .bas nn mask r => Sys2Proof.Machine.execBas nn mask r s
  | .pha => Sys2Proof.Machine.execPha s
  | .php => Sys2Proof.Machine.execPhp s
  | .phx => Sys2Proof.Machine.execPhx s
  | .phy => Sys2Proof.Machine.execPhy s
  | .psh => Sys2Proof.Machine.execPsh s
  | .pla => Sys2Proof.Machine.execPla s
  | .plp => Sys2Proof.Machine.execPlp s
  | .plx => Sys2Proof.Machine.execPlx s
  | .ply => Sys2Proof.Machine.execPly s
  | .pul => Sys2Proof.Machine.execPul s
  | .nxt => Sys2Proof.Machine.execNxt s
  | .lii => Sys2Proof.Machine.execLii s
  | .lai => Sys2Proof.Machine.execLai s
  | .lan => Sys2Proof.Machine.execLan s
  | .ini => Sys2Proof.Machine.execIni s
  | .phi => Sys2Proof.Machine.execPhi s
  | .pli => Sys2Proof.Machine.execPli s
  | .jpi nn => Sys2Proof.Machine.execJpi nn s
  | .tip => Sys2Proof.Machine.execTip s
  | .pia => Sys2Proof.Machine.execPia s
  | .clc => Sys2Proof.Machine.execClc s
  | .sec => Sys2Proof.Machine.execSec s
  | .cld => Sys2Proof.Machine.execCld s
  | .sed => Sys2Proof.Machine.execSed s
  | .cli => Sys2Proof.Machine.execCli s
  | .sei => Sys2Proof.Machine.execSei s
  | .clv => Sys2Proof.Machine.execClv s
  | .nop => Sys2Proof.Machine.execNop s
  | .brk => Sys2Proof.Machine.execBrk s
  | .rti => Sys2Proof.Machine.execRti s

end Sys2Proof.Machine
end

