-- ==== Sys2Proof/Machine/Events.lean ====
section
/-! DEFINITION. What happens at an instruction boundary instead of an instruction (60_exceptions.md R436, R447), and the
platform's moves between steps (70_reset_and_hazards.md R485), which `step` itself never makes (log 34). -/

namespace Sys2Proof.Machine

/-- The pending maskable source of highest priority; sources are named by their place in the priority order (R434; log 18). -/
def highestPriority : List Nat → Option Nat
  | [] => none
  | src :: rest =>
    match highestPriority rest with
    | none => some src
    | some best => some (if best < src then best else src)

/-- The event taken at this boundary, in the order of R447: reset, NMI (consumed by its entry), then, if P.I = 0, the maskable source
of highest priority. The request of a maskable source stays as the platform has it (R435; log 17, 18, 19). -/
def State.acceptedEvent (s : State) : Option State :=
  if s.resetRequest then some s.startSequence
  else if s.nmiRequest then some ((s.setNmiRequest false).interruptEntry nmiVector)
  else if s.flag .i then none
  else match highestPriority s.irqRequests with
    | some src => some (s.interruptEntry (Config.irqVector src))
    | none => none

/-- The platform raises reset (R472, R485). -/
def State.requestReset (s : State) : State := s.setResetRequest true

/-- The platform raises NMI; a request already pending stays one request (R437, R485). -/
def State.requestNmi (s : State) : State := s.setNmiRequest true

/-- The platform raises a maskable request (R434, R485). -/
def State.requestIrq (s : State) (src : Nat) : State := s.setIrqRequests (src :: s.irqRequests.filter (· != src))

/-- The platform withdraws a maskable request (R434, R435). -/
def State.withdrawIrq (s : State) (src : Nat) : State := s.setIrqRequests (s.irqRequests.filter (· != src))

/-- The platform preloads a byte of memory, RAM or ROM (R475, R485). -/
def State.preload (s : State) (addr : Word) (v : Byte) : State := s.load addr v

end Sys2Proof.Machine
end

