-- ==== Sys2Proof/Machine/Fetch.lean ====
section
/-! DEFINITION. Fetching the instruction at PC, and placing an instruction's bytes where the next fetch finds them. -/

namespace Sys2Proof.Machine

/-- The k-th byte of the instruction at PC; addresses wrap past 0xFFFF (R100, R111, R30). -/
def State.codeByte (s : State) (k : Nat) : Byte := s.read (s.pc + BitVec.ofNat 16 k)

/-- Fetch and decode the instruction at PC. Only the bytes it takes are read (R111); a code that is Not Used is the fault
`IllegalOpcode(PC0, opcode)` and nothing else happens (R110, R433; log 9). -/
def State.fetchInstr (s : State) : Except Fault Instr :=
  match decodeAt s.codeByte with
  | .ok i => .ok i
  | .error _ => .error (.illegalOpcode s.pc (s.codeByte 0))

/-- Place bytes from outside at consecutive addresses from `addr` on, modulo 65536 (R100, R485). -/
def State.storeBytes (s : State) (addr : Word) : List Byte → State
  | [] => s
  | b :: rest => (s.load addr b).storeBytes (addr + 1) rest

/-- No request is pending, so that the next step fetches. -/
def State.clearRequests (s : State) : State :=
  ((s.setResetRequest false).setNmiRequest false).setIrqRequests []

end Sys2Proof.Machine
end

