-- ==== Sys2Proof/Machine/Step.lean ====
section
/-! DEFINITION. One step of the machine (60_exceptions.md R447): an accepted event, or one instruction. -/

namespace Sys2Proof.Machine

/-- Exactly one of these happens per step: reset, an interrupt entry, the fault of a Not Used code, or one instruction (R447). -/
def step (s : State) : Host.Outcome State Fault Refusal :=
  match s.acceptedEvent with
  | some t => .next t
  | none =>
    match s.fetchInstr with
    | .ok i => exec i s
    | .error f => .fault f

/-- `s` with the instruction whose bits are `w` (the bits from `nbits` on being 0) stored at PC and no request pending, so that the
very next step runs it (log 6, 37). -/
def State.withFetchWord (s : State) (nbits w : Nat) : State :=
  s.clearRequests.storeBytes s.pc (tableBytes nbits w)

end Sys2Proof.Machine
end

