-- ==== Sys2Proof/Machine/Assembly.lean ====
section
/-! DEFINITION. The mnemonic of every instruction (30_encoding.md R108) and its assembly language form (R112). Addresses and
constants are printed as hexadecimal digits after the `$` the manual uses; labels and directives are not in the source (R113; log 39). -/

namespace Sys2Proof

/-- The mnemonic of spec/opcode_table.json. -/
def Instr.mnemonic : Instr → String
  | .ldaInd _ => "LDA"
  | .ldaZp _ => "LDA"
  | .ldaImm _ => "LDA"
  | .ldaAbs _ => "LDA"
  | .ldaIndX _ => "LDA"
  | .ldaZpX _ => "LDA"
  | .ldaAbsY _ => "LDA"
  | .ldaAbsX _ => "LDA"
  | .ldxImm _ => "LDX"
  | .ldxZp _ => "LDX"
  | .ldxAbs _ => "LDX"
  | .ldxZpY _ => "LDX"
  | .ldxAbsY _ => "LDX"
  | .ldyImm _ => "LDY"
  | .ldyZp _ => "LDY"
  | .ldyAbs _ => "LDY"
  | .ldyZpX _ => "LDY"
  | .ldyAbsX _ => "LDY"
  | .staInd _ => "STA"
  | .staZp _ => "STA"
  | .staAbs _ => "STA"
  | .staIndX _ => "STA"
  | .staZpX _ => "STA"
  | .staAbsY _ => "STA"
  | .staAbsX _ => "STA"
  | .stxZp _ => "STX"
  | .stxAbs _ => "STX"
  | .stxZpY _ => "STX"
  | .styZp _ => "STY"
  | .styAbs _ => "STY"
  | .styZpX _ => "STY"
  | .sti _ _ => "STI"
  | .tax => "TAX"
  | .tay => "TAY"
  | .txa => "TXA"
  | .tya => "TYA"
  | .tsx => "TSX"
  | .txs => "TXS"
  | .exc _ => "EXC"
  | .adcInd _ => "ADC"
  | .adcZp _ => "ADC"
  | .adcImm _ => "ADC"
  | .adcAbs _ => "ADC"
  | .adcIndX _ => "ADC"
  | .adcZpX _ => "ADC"
  | .adcAbsY _ => "ADC"
  | .adcAbsX _ => "ADC"
  | .addZp _ => "ADD"
  | .addZpX _ => "ADD"
  | .addImm _ => "ADD"
  | .sbcInd _ => "SBC"
  | .sbcZp _ => "SBC"
  | .sbcImm _ => "SBC"
  | .sbcAbs _ => "SBC"
  | .sbcIndX _ => "SBC"
  | .sbcZpX _ => "SBC"
  | .sbcAbsY _ => "SBC"
  | .sbcAbsX _ => "SBC"
  | .andInd _ => "AND"
  | .andZp _ => "AND"
  | .andImm _ => "AND"
  | .andAbs _ => "AND"
  | .andIndX _ => "AND"
  | .andZpX _ => "AND"
  | .andAbsY _ => "AND"
  | .andAbsX _ => "AND"
  | .oraInd _ => "ORA"
  | .oraZp _ => "ORA"
  | .oraImm _ => "ORA"
  | .oraAbs _ => "ORA"
  | .oraIndX _ => "ORA"
  | .oraZpX _ => "ORA"
  | .oraAbsY _ => "ORA"
  | .oraAbsX _ => "ORA"
  | .eorInd _ => "EOR"
  | .eorZp _ => "EOR"
  | .eorImm _ => "EOR"
  | .eorAbs _ => "EOR"
  | .eorIndX _ => "EOR"
  | .eorZpX _ => "EOR"
  | .eorAbsY _ => "EOR"
  | .eorAbsX _ => "EOR"
  | .cmpInd _ => "CMP"
  | .cmpZp _ => "CMP"
  | .cmpImm _ => "CMP"
  | .cmpAbs _ => "CMP"
  | .cmpIndX _ => "CMP"
  | .cmpZpX _ => "CMP"
  | .cmpAbsY _ => "CMP"
  | .cmpAbsX _ => "CMP"
  | .cpxImm _ => "CPX"
  | .cpxZp _ => "CPX"
  | .cpxAbs _ => "CPX"
  | .cpyImm _ => "CPY"
  | .cpyZp _ => "CPY"
  | .cpyAbs _ => "CPY"
  | .bitZp _ => "BIT"
  | .bitAbs _ => "BIT"
  | .incZp _ => "INC"
  | .incAbs _ => "INC"
  | .incZpX _ => "INC"
  | .incAbsX _ => "INC"
  | .decZp _ => "DEC"
  | .decAbs _ => "DEC"
  | .decZpX _ => "DEC"
  | .decAbsX _ => "DEC"
  | .inx => "INX"
  | .iny => "INY"
  | .dex => "DEX"
  | .dey => "DEY"
  | .neg => "NEG"
  | .lab => "LAB"
  | .aslZp _ => "ASL"
  | .aslAcc => "ASL"
  | .aslAbs _ => "ASL"
  | .aslZpX _ => "ASL"
  | .aslAbsX _ => "ASL"
  | .lsrZp _ => "LSR"
  | .lsrAcc => "LSR"
  | .lsrAbs _ => "LSR"
  | .lsrZpX _ => "LSR"
  | .lsrAbsX _ => "LSR"
  | .rolZp _ => "ROL"
  | .rolAcc => "ROL"
  | .rolAbs _ => "ROL"
  | .rolZpX _ => "ROL"
  | .rolAbsX _ => "ROL"
  | .rorZp _ => "ROR"
  | .rorAcc => "ROR"
  | .rorAbs _ => "ROR"
  | .rorZpX _ => "ROR"
  | .rorAbsX _ => "ROR"
  | .asr => "ASR"
  | .mpy => "MPY"
  | .mpa => "MPA"
  | .rnd => "RND"
  | .clw => "CLW"
  | .taw => "TAW"
  | .twa => "TWA"
  | .phw => "PHW"
  | .plw => "PLW"
  | .bcc _ => "BCC"
  | .bcs _ => "BCS"
  | .beq _ => "BEQ"
  | .bne _ => "BNE"
  | .bmi _ => "BMI"
  | .bpl _ => "BPL"
  | .bvc _ => "BVC"
  | .bvs _ => "BVS"
  | .bra _ => "BRA"
  | .jmpAbs _ => "JMP"
  | .jmpInd _ => "JMP"
  | .jmpIndX _ => "JMP"
  | .jsr _ => "JSR"
  | .jsb0 => "JSB"
  | .jsb1 => "JSB"
  | .jsb2 => "JSB"
  | .jsb3 => "JSB"
  | .jsb4 => "JSB"
  | .jsb5 => "JSB"
  | .jsb6 => "JSB"
  | .jsb7 => "JSB"
  | .rts => "RTS"
  | .rmb0 _ => "RMB"
  | .rmb1 _ => "RMB"
  | .rmb2 _ => "RMB"
  | .rmb3 _ => "RMB"
  | .rmb4 _ => "RMB"
  | .rmb5 _ => "RMB"
  | .rmb6 _ => "RMB"
  | .rmb7 _ => "RMB"
  | .smb0 _ => "SMB"
  | .smb1 _ => "SMB"
  | .smb2 _ => "SMB"
  | .smb3 _ => "SMB"
  | .smb4 _ => "SMB"
  | .smb5 _ => "SMB"
  | .smb6 _ => "SMB"
  | .smb7 _ => "SMB"
  | .rba _ _ => "RBA"
  | .sba _ _ => "SBA"
  | .bbr0 _ _ => "BBR"
  | .bbr1 _ _ => "BBR"
  | .bbr2 _ _ => "BBR"
  | .bbr3 _ _ => "BBR"
  | .bbr4 _ _ => "BBR"
  | .bbr5 _ _ => "BBR"
  | .bbr6 _ _ => "BBR"
  | .bbr7 _ _ => "BBR"
  | .bbs0 _ _ => "BBS"
  | .bbs1 _ _ => "BBS"
  | .bbs2 _ _ => "BBS"
  | .bbs3 _ _ => "BBS"
  | .bbs4 _ _ => "BBS"
  | .bbs5 _ _ => "BBS"
  | .bbs6 _ _ => "BBS"
  | .bbs7 _ _ => "BBS"
  | .bar _ _ _ => "BAR"
  | .bas _ _ _ => "BAS"
  | .pha => "PHA"
  | .php => "PHP"
  | .phx => "PHX"
  | .phy => "PHY"
  | .psh => "PSH"
  | .pla => "PLA"
  | .plp => "PLP"
  | .plx => "PLX"
  | .ply => "PLY"
  | .pul => "PUL"
  | .nxt => "NXT"
  | .lii => "LII"
  | .lai => "LAI"
  | .lan => "LAN"
  | .ini => "INI"
  | .phi => "PHI"
  | .pli => "PLI"
  | .jpi _ => "JPI"
  | .tip => "TIP"
  | .pia => "PIA"
  | .clc => "CLC"
  | .sec => "SEC"
  | .cld => "CLD"
  | .sed => "SED"
  | .cli => "CLI"
  | .sei => "SEI"
  | .clv => "CLV"
  | .nop => "NOP"
  | .brk => "BRK"
  | .rti => "RTI"

/-- A hexadecimal digit. -/
def hexDigit (k : Nat) : String :=
  ["0", "1", "2", "3", "4", "5", "6", "7", "8", "9", "A", "B", "C", "D", "E", "F"].getD k "0"

/-- A byte as the manual writes it, `$FF`. -/
def hexByte (b : Byte) : String := "$" ++ hexDigit (b.toNat / 16) ++ hexDigit (b.toNat % 16)

/-- A word as the manual writes it, `$FFE0`. -/
def hexWord (v : Word) : String :=
  "$" ++ hexDigit (v.toNat / 4096) ++ hexDigit (v.toNat / 256 % 16) ++ hexDigit (v.toNat / 16 % 16) ++ hexDigit (v.toNat % 16)

/-- `Dest`: the destination of the offset `r` of an instruction of `len` bytes at `pc0` (R112, R320). -/
def destText (pc0 : Word) (len : Nat) (r : Byte) : String := hexWord (pc0 + BitVec.ofNat 16 len + r.signExtend 16)

/-- The assembly language form of an instruction that stands at `pc0` (R112). -/
def Instr.assembly (pc0 : Word) : Instr → String
  | .ldaInd n => "LDA (" ++ hexByte n ++ ")"
  | .ldaZp n => "LDA " ++ hexByte n
  | .ldaImm n => "LDA #" ++ hexByte n
  | .ldaAbs nn => "LDA " ++ hexWord nn
  | .ldaIndX n => "LDA (" ++ hexByte n ++ "),X"
  | .ldaZpX n => "LDA " ++ hexByte n ++ ",X"
  | .ldaAbsY nn => "LDA " ++ hexWord nn ++ ",Y"
  | .ldaAbsX nn => "LDA " ++ hexWord nn ++ ",X"
  | .ldxImm n => "LDX #" ++ hexByte n
  | .ldxZp n => "LDX " ++ hexByte n
  | .ldxAbs nn => "LDX " ++ hexWord nn
  | .ldxZpY n => "LDX " ++ hexByte n ++ ",Y"
  | .ldxAbsY nn => "LDX " ++ hexWord nn ++ ",Y"
  | .ldyImm n => "LDY #" ++ hexByte n
  | .ldyZp n => "LDY " ++ hexByte n
  | .ldyAbs nn => "LDY " ++ hexWord nn
  | .ldyZpX n => "LDY " ++ hexByte n ++ ",X"
  | .ldyAbsX nn => "LDY " ++ hexWord nn ++ ",X"
  | .staInd n => "STA (" ++ hexByte n ++ ")"
  | .staZp n => "STA " ++ hexByte n
  | .staAbs nn => "STA " ++ hexWord nn
  | .staIndX n => "STA (" ++ hexByte n ++ "),X"
  | .staZpX n => "STA " ++ hexByte n ++ ",X"
  | .staAbsY nn => "STA " ++ hexWord nn ++ ",Y"
  | .staAbsX nn => "STA " ++ hexWord nn ++ ",X"
  | .stxZp n => "STX " ++ hexByte n
  | .stxAbs nn => "STX " ++ hexWord nn
  | .stxZpY n => "STX " ++ hexByte n ++ ",Y"
  | .styZp n => "STY " ++ hexByte n
  | .styAbs nn => "STY " ++ hexWord nn
  | .styZpX n => "STY " ++ hexByte n ++ ",X"
  | .sti data n => "STI #" ++ hexByte data ++ ", " ++ hexByte n
  | .tax => "TAX"
  | .tay => "TAY"
  | .txa => "TXA"
  | .tya => "TYA"
  | .tsx => "TSX"
  | .txs => "TXS"
  | .exc n => "EXC " ++ hexByte n ++ ",X"
  | .adcInd n => "ADC (" ++ hexByte n ++ ")"
  | .adcZp n => "ADC " ++ hexByte n
  | .adcImm n => "ADC #" ++ hexByte n
  | .adcAbs nn => "ADC " ++ hexWord nn
  | .adcIndX n => "ADC (" ++ hexByte n ++ "),X"
  | .adcZpX n => "ADC " ++ hexByte n ++ ",X"
  | .adcAbsY nn => "ADC " ++ hexWord nn ++ ",Y"
  | .adcAbsX nn => "ADC " ++ hexWord nn ++ ",X"
  | .addZp n => "ADD " ++ hexByte n
  | .addZpX n => "ADD " ++ hexByte n ++ ",X"
  | .addImm n => "ADD #" ++ hexByte n
  | .sbcInd n => "SBC (" ++ hexByte n ++ ")"
  | .sbcZp n => "SBC " ++ hexByte n
  | .sbcImm n => "SBC #" ++ hexByte n
  | .sbcAbs nn => "SBC " ++ hexWord nn
  | .sbcIndX n => "SBC (" ++ hexByte n ++ "),X"
  | .sbcZpX n => "SBC " ++ hexByte n ++ ",X"
  | .sbcAbsY nn => "SBC " ++ hexWord nn ++ ",Y"
  | .sbcAbsX nn => "SBC " ++ hexWord nn ++ ",X"
  | .andInd n => "AND (" ++ hexByte n ++ ")"
  | .andZp n => "AND " ++ hexByte n
  | .andImm n => "AND #" ++ hexByte n
  | .andAbs nn => "AND " ++ hexWord nn
  | .andIndX n => "AND (" ++ hexByte n ++ "),X"
  | .andZpX n => "AND " ++ hexByte n ++ ",X"
  | .andAbsY nn => "AND " ++ hexWord nn ++ ",Y"
  | .andAbsX nn => "AND " ++ hexWord nn ++ ",X"
  | .oraInd n => "ORA (" ++ hexByte n ++ ")"
  | .oraZp n => "ORA " ++ hexByte n
  | .oraImm n => "ORA #" ++ hexByte n
  | .oraAbs nn => "ORA " ++ hexWord nn
  | .oraIndX n => "ORA (" ++ hexByte n ++ "),X"
  | .oraZpX n => "ORA " ++ hexByte n ++ ",X"
  | .oraAbsY nn => "ORA " ++ hexWord nn ++ ",Y"
  | .oraAbsX nn => "ORA " ++ hexWord nn ++ ",X"
  | .eorInd n => "EOR (" ++ hexByte n ++ ")"
  | .eorZp n => "EOR " ++ hexByte n
  | .eorImm n => "EOR #" ++ hexByte n
  | .eorAbs nn => "EOR " ++ hexWord nn
  | .eorIndX n => "EOR (" ++ hexByte n ++ "),X"
  | .eorZpX n => "EOR " ++ hexByte n ++ ",X"
  | .eorAbsY nn => "EOR " ++ hexWord nn ++ ",Y"
  | .eorAbsX nn => "EOR " ++ hexWord nn ++ ",X"
  | .cmpInd n => "CMP (" ++ hexByte n ++ ")"
  | .cmpZp n => "CMP " ++ hexByte n
  | .cmpImm n => "CMP #" ++ hexByte n
  | .cmpAbs nn => "CMP " ++ hexWord nn
  | .cmpIndX n => "CMP (" ++ hexByte n ++ "),X"
  | .cmpZpX n => "CMP " ++ hexByte n ++ ",X"
  | .cmpAbsY nn => "CMP " ++ hexWord nn ++ ",Y"
  | .cmpAbsX nn => "CMP " ++ hexWord nn ++ ",X"
  | .cpxImm n => "CPX #" ++ hexByte n
  | .cpxZp n => "CPX " ++ hexByte n
  | .cpxAbs nn => "CPX " ++ hexWord nn
  | .cpyImm n => "CPY #" ++ hexByte n
  | .cpyZp n => "CPY " ++ hexByte n
  | .cpyAbs nn => "CPY " ++ hexWord nn
  | .bitZp n => "BIT " ++ hexByte n
  | .bitAbs nn => "BIT " ++ hexWord nn
  | .incZp n => "INC " ++ hexByte n
  | .incAbs nn => "INC " ++ hexWord nn
  | .incZpX n => "INC " ++ hexByte n ++ ",X"
  | .incAbsX nn => "INC " ++ hexWord nn ++ ",X"
  | .decZp n => "DEC " ++ hexByte n
  | .decAbs nn => "DEC " ++ hexWord nn
  | .decZpX n => "DEC " ++ hexByte n ++ ",X"
  | .decAbsX nn => "DEC " ++ hexWord nn ++ ",X"
  | .inx => "INX"
  | .iny => "INY"
  | .dex => "DEX"
  | .dey => "DEY"
  | .neg => "NEG A"
  | .lab => "LAB A"
  | .aslZp n => "ASL " ++ hexByte n
  | .aslAcc => "ASL A"
  | .aslAbs nn => "ASL " ++ hexWord nn
  | .aslZpX n => "ASL " ++ hexByte n ++ ",X"
  | .aslAbsX nn => "ASL " ++ hexWord nn ++ ",X"
  | .lsrZp n => "LSR " ++ hexByte n
  | .lsrAcc => "LSR A"
  | .lsrAbs nn => "LSR " ++ hexWord nn
  | .lsrZpX n => "LSR " ++ hexByte n ++ ",X"
  | .lsrAbsX nn => "LSR " ++ hexWord nn ++ ",X"
  | .rolZp n => "ROL " ++ hexByte n
  | .rolAcc => "ROL A"
  | .rolAbs nn => "ROL " ++ hexWord nn
  | .rolZpX n => "ROL " ++ hexByte n ++ ",X"
  | .rolAbsX nn => "ROL " ++ hexWord nn ++ ",X"
  | .rorZp n => "ROR " ++ hexByte n
  | .rorAcc => "ROR A"
  | .rorAbs nn => "ROR " ++ hexWord nn
  | .rorZpX n => "ROR " ++ hexByte n ++ ",X"
  | .rorAbsX nn => "ROR " ++ hexWord nn ++ ",X"
  | .asr => "ASR A"
  | .mpy => "MPY"
  | .mpa => "MPA"
  | .rnd => "RND"
  | .clw => "CLW"
  | .taw => "TAW"
  | .twa => "TWA"
  | .phw => "PHW"
  | .plw => "PLW"
  | .bcc r => "BCC " ++ destText pc0 2 r
  | .bcs r => "BCS " ++ destText pc0 2 r
  | .beq r => "BEQ " ++ destText pc0 2 r
  | .bne r => "BNE " ++ destText pc0 2 r
  | .bmi r => "BMI " ++ destText pc0 2 r
  | .bpl r => "BPL " ++ destText pc0 2 r
  | .bvc r => "BVC " ++ destText pc0 2 r
  | .bvs r => "BVS " ++ destText pc0 2 r
  | .bra r => "BRA " ++ destText pc0 2 r
  | .jmpAbs nn => "JMP " ++ hexWord nn
  | .jmpInd nn => "JMP (" ++ hexWord nn ++ ")"
  | .jmpIndX nn => "JMP (" ++ hexWord nn ++ ",X)"
  | .jsr nn => "JSR " ++ hexWord nn
  | .jsb0 => "JSB 0"
  | .jsb1 => "JSB 1"
  | .jsb2 => "JSB 2"
  | .jsb3 => "JSB 3"
  | .jsb4 => "JSB 4"
  | .jsb5 => "JSB 5"
  | .jsb6 => "JSB 6"
  | .jsb7 => "JSB 7"
  | .rts => "RTS"
  | .rmb0 n => "RMB 0," ++ hexByte n
  | .rmb1 n => "RMB 1," ++ hexByte n
  | .rmb2 n => "RMB 2," ++ hexByte n
  | .rmb3 n => "RMB 3," ++ hexByte n
  | .rmb4 n => "RMB 4," ++ hexByte n
  | .rmb5 n => "RMB 5," ++ hexByte n
  | .rmb6 n => "RMB 6," ++ hexByte n
  | .rmb7 n => "RMB 7," ++ hexByte n
  | .smb0 n => "SMB 0," ++ hexByte n
  | .smb1 n => "SMB 1," ++ hexByte n
  | .smb2 n => "SMB 2," ++ hexByte n
  | .smb3 n => "SMB 3," ++ hexByte n
  | .smb4 n => "SMB 4," ++ hexByte n
  | .smb5 n => "SMB 5," ++ hexByte n
  | .smb6 n => "SMB 6," ++ hexByte n
  | .smb7 n => "SMB 7," ++ hexByte n
  | .rba mask nn => "RBA " ++ hexByte mask ++ "," ++ hexWord nn
  | .sba mask nn => "SBA " ++ hexByte mask ++ "," ++ hexWord nn
  | .bbr0 n r => "BBR 0," ++ hexByte n ++ "," ++ destText pc0 3 r
  | .bbr1 n r => "BBR 1," ++ hexByte n ++ "," ++ destText pc0 3 r
  | .bbr2 n r => "BBR 2," ++ hexByte n ++ "," ++ destText pc0 3 r
  | .bbr3 n r => "BBR 3," ++ hexByte n ++ "," ++ destText pc0 3 r
  | .bbr4 n r => "BBR 4," ++ hexByte n ++ "," ++ destText pc0 3 r
  | .bbr5 n r => "BBR 5," ++ hexByte n ++ "," ++ destText pc0 3 r
  | .bbr6 n r => "BBR 6," ++ hexByte n ++ "," ++ destText pc0 3 r
  | .bbr7 n r => "BBR 7," ++ hexByte n ++ "," ++ destText pc0 3 r
  | .bbs0 n r => "BBS 0," ++ hexByte n ++ "," ++ destText pc0 3 r
  | .bbs1 n r => "BBS 1," ++ hexByte n ++ "," ++ destText pc0 3 r
  | .bbs2 n r => "BBS 2," ++ hexByte n ++ "," ++ destText pc0 3 r
  | .bbs3 n r => "BBS 3," ++ hexByte n ++ "," ++ destText pc0 3 r
  | .bbs4 n r => "BBS 4," ++ hexByte n ++ "," ++ destText pc0 3 r
  | .bbs5 n r => "BBS 5," ++ hexByte n ++ "," ++ destText pc0 3 r
  | .bbs6 n r => "BBS 6," ++ hexByte n ++ "," ++ destText pc0 3 r
  | .bbs7 n r => "BBS 7," ++ hexByte n ++ "," ++ destText pc0 3 r
  | .bar nn mask r => "BAR " ++ hexWord nn ++ "," ++ hexByte mask ++ "," ++ destText pc0 5 r
  | .bas nn mask r => "BAS " ++ hexWord nn ++ "," ++ hexByte mask ++ "," ++ destText pc0 5 r
  | .pha => "PHA"
  | .php => "PHP"
  | .phx => "PHX"
  | .phy => "PHY"
  | .psh => "PSH"
  | .pla => "PLA"
  | .plp => "PLP"
  | .plx => "PLX"
  | .ply => "PLY"
  | .pul => "PUL"
  | .nxt => "NXT"
  | .lii => "LII"
  | .lai => "LAI"
  | .lan => "LAN"
  | .ini => "INI"
  | .phi => "PHI"
  | .pli => "PLI"
  | .jpi nn => "JPI (" ++ hexWord nn ++ ")"
  | .tip => "TIP"
  | .pia => "PIA"
  | .clc => "CLC"
  | .sec => "SEC"
  | .cld => "CLD"
  | .sed => "SED"
  | .cli => "CLI"
  | .sei => "SEI"
  | .clv => "CLV"
  | .nop => "NOP"
  | .brk => "BRK"
  | .rti => "RTI"

end Sys2Proof
end

