-- ==== Sys2Proof/Machine/Bus.lean ====
section
/-! DEFINITION. The bus accesses of every instruction after its operation-code fetch, in order, with the ignored reads: the
table of 20_memory.md R80, one builder per line of the table, from the state at the start of the instruction. Ignored reads have
no effect on RAM and ROM (R66, R68, R82), so `step` needs none of this; the writes listed here are the writes of the meanings (log 28). -/

namespace Sys2Proof.Machine

/-- One bus cycle: a read used, a read ignored, a write (R80). -/
inductive BusAccess where
  | read (addr : Word)
  | ignored (addr : Word)
  | write (addr : Word) (v : Byte)
  deriving DecidableEq, Repr

/-- What a list of bus cycles does on a platform of RAM and ROM: its writes, in order (R66, R68, R75). -/
def applyWrites : State → List BusAccess → State
  | s, [] => s
  | s, .write a v :: rest => applyWrites (s.write a v) rest
  | s, .read _ :: rest => applyWrites s rest
  | s, .ignored _ :: rest => applyWrites s rest

/-- `r(PC0 + k)`: the k-th byte of the instruction is fetched. -/
def State.busFetch (s : State) (k : Nat) : BusAccess := .read (s.pc + BitVec.ofNat 16 k)

/-- `i(PC0 + k)`. -/
def State.busIgnore (s : State) (k : Nat) : BusAccess := .ignored (s.pc + BitVec.ofNat 16 k)

/-- `i({01, S + k})`. -/
def State.busIgnoreStack (s : State) (k : Byte) : BusAccess := .ignored (stackAddr (s.sp + k))

/-- `r({01, S + k})`. -/
def State.busPull (s : State) (k : Byte) : BusAccess := .read (stackAddr (s.sp + k))

/-- `w({01, S - k})`. -/
def State.busPush (s : State) (k : Byte) (v : Byte) : BusAccess := .write (stackAddr (s.sp - k)) v

/-- The un-carried address `{BAH, u8(BAL + idx)}` (R81). -/
def uncarried (base : Word) (idx : Byte) : Word := joinBytes (hiByte base) (loByte base + idx)

/-- A page boundary is crossed: `BAL + idx > 0xFF` (R142). -/
def pageCrossed (base : Word) (idx : Byte) : Bool := decide ((loByte base).toNat + idx.toNat > 255)

/-- Implied and Accumulator, 2 cycles (C1.1, C11.1). -/
def busImplied (s : State) : List BusAccess := [s.busIgnore 1]

/-- MPY and MPA (C1.2). -/
def busMultiply (s : State) : List BusAccess := [s.busIgnore 1, s.busIgnore 1, s.busIgnore 1, s.busIgnore 1, s.busIgnore 1]

/-- LAB (C11.2). -/
def busLab (s : State) : List BusAccess := [s.busIgnore 1, s.busIgnore 1]

/-- Immediate (C2.1). -/
def busImmediate (s : State) : List BusAccess := [s.busFetch 1]

/-- STI (C2.2). -/
def busSti (data n : Byte) (s : State) : List BusAccess := [s.busFetch 1, s.busFetch 2, .write (eaZp n) data]

/-- Zero page read (C3.1). -/
def busReadZp (n : Byte) (s : State) : List BusAccess := [s.busFetch 1, .read (eaZp n)]

/-- Zero page write (C3.2). -/
def busWriteZp (n v : Byte) (s : State) : List BusAccess := [s.busFetch 1, .write (eaZp n) v]

/-- Zero page,X and ,Y read (C4.1, C5.1). -/
def busReadZpIdx (n : Byte) (ea : Word) (s : State) : List BusAccess := [s.busFetch 1, .ignored (eaZp n), .read ea]

/-- Zero page,X and ,Y write (C4.2, C5.2). -/
def busWriteZpIdx (n : Byte) (ea : Word) (v : Byte) (s : State) : List BusAccess :=
  [s.busFetch 1, .ignored (eaZp n), .write ea v]

/-- EXC (C4.3). -/
def busExc (n : Byte) (s : State) : List BusAccess :=
  [s.busFetch 1, .ignored (eaZp n), .read (eaZpX n s), .write (eaZpX n s) s.a]

/-- Absolute read (C6.1). -/
def busReadAbs (nn : Word) (s : State) : List BusAccess := [s.busFetch 1, s.busFetch 2, .read nn]

/-- Absolute write (C6.2). -/
def busWriteAbs (nn : Word) (v : Byte) (s : State) : List BusAccess := [s.busFetch 1, s.busFetch 2, .write nn v]

/-- Absolute,X and ,Y read; the ignored read only when a page boundary is crossed (C7.1, C8.1, R81). -/
def busReadAbsIdx (nn : Word) (idx : Byte) (s : State) : List BusAccess :=
  [s.busFetch 1, s.busFetch 2] ++ (if pageCrossed nn idx then [.ignored (uncarried nn idx)] else [])
    ++ [.read (nn + idx.setWidth 16)]

/-- Absolute,X and ,Y write; the ignored read always (C7.2, C8.2, R81). -/
def busWriteAbsIdx (nn : Word) (idx v : Byte) (s : State) : List BusAccess :=
  [s.busFetch 1, s.busFetch 2, .ignored (uncarried nn idx), .write (nn + idx.setWidth 16) v]

/-- (Indirect) read (C9.1). -/
def busReadInd (n : Byte) (s : State) : List BusAccess :=
  [s.busFetch 1, .read (eaZp n), .read (eaZp (n + 1)), .read (eaInd n s)]

/-- (Indirect) write (C9.2). -/
def busWriteInd (n v : Byte) (s : State) : List BusAccess :=
  [s.busFetch 1, .read (eaZp n), .read (eaZp (n + 1)), .write (eaInd n s) v]

/-- (Indirect),X read (C10.1). -/
def busReadIndX (n : Byte) (s : State) : List BusAccess :=
  [s.busFetch 1, .read (eaZp n), .read (eaZp (n + 1))]
    ++ (if pageCrossed (eaInd n s) s.x then [.ignored (uncarried (eaInd n s) s.x)] else []) ++ [.read (eaIndX n s)]

/-- (Indirect),X write (C10.2). -/
def busWriteIndX (n v : Byte) (s : State) : List BusAccess :=
  [s.busFetch 1, .read (eaZp n), .read (eaZp (n + 1)), .ignored (uncarried (eaInd n s) s.x), .write (eaIndX n s) v]

/-- Two reads and one write of the operand of a read-modify-write instruction (R67). -/
def busModify (ea : Word) (v : Byte) : List BusAccess := [.read ea, .ignored ea, .write ea v]

/-- Zero page read-modify-write, RMB and SMB (C12.1, C15.1). -/
def busModifyZp (n v : Byte) (s : State) : List BusAccess := s.busFetch 1 :: busModify (eaZp n) v

/-- Zero page,X read-modify-write (C12.2). -/
def busModifyZpX (n v : Byte) (s : State) : List BusAccess := s.busFetch 1 :: .ignored (eaZp n) :: busModify (eaZpX n s) v

/-- Absolute read-modify-write (C12.3). -/
def busModifyAbs (nn : Word) (v : Byte) (s : State) : List BusAccess := s.busFetch 1 :: s.busFetch 2 :: busModify nn v

/-- Absolute,X read-modify-write; the ignored read always (C12.4, R81). -/
def busModifyAbsX (nn : Word) (v : Byte) (s : State) : List BusAccess :=
  s.busFetch 1 :: s.busFetch 2 :: .ignored (uncarried nn s.x) :: busModify (eaAbsX nn s) v

/-- RBA and SBA (C15.2). -/
def busMask (nn : Word) (v : Byte) (s : State) : List BusAccess :=
  s.busFetch 1 :: s.busFetch 2 :: s.busFetch 3 :: busModify nn v

/-- BBR and BBS; the extra cycles of a taken branch are not placed by the spec (C15.3; 93 U17, log 29). -/
def busBitBranch (n : Byte) (s : State) : List BusAccess :=
  [s.busFetch 1, .read (eaZp n), .ignored (eaZp n), s.busFetch 2]

/-- BAR and BAS (C15.4; 93 U17, log 29). -/
def busMaskBranch (nn : Word) (s : State) : List BusAccess :=
  [s.busFetch 1, s.busFetch 2, .read nn, s.busFetch 3, s.busIgnore 3, s.busFetch 4]

/-- The target lies in the page of the next instruction (R142, R336). -/
def samePage (next : Word) (r : Byte) : Bool := hiByte (branchTarget next r) == hiByte next

/-- A relative branch (C13.1, C13.2, R336). -/
def busBranch (taken : Bool) (r : Byte) (s : State) : List BusAccess :=
  let next := s.pc + 2
  if !taken then [s.busFetch 1]
  else if samePage next r then [s.busFetch 1, .ignored next]
  else [s.busFetch 1, .ignored next, .ignored (joinBytes (hiByte next) (loByte (branchTarget next r)))]

/-- JMP Absolute (C13.3). -/
def busJump (s : State) : List BusAccess := [s.busFetch 1, s.busFetch 2]

/-- JMP (Absolute) and JPI (C13.5, C17.6). -/
def busJumpInd (nn : Word) (s : State) : List BusAccess := [s.busFetch 1, s.busFetch 2, .read nn, .read (nn + 1)]

/-- JMP (Absolute,X) (C13.4). -/
def busJumpIndX (nn : Word) (s : State) : List BusAccess :=
  [s.busFetch 1, s.busFetch 2, .ignored (uncarried nn s.x), .read (eaAbsX nn s), .read (eaAbsX nn s + 1)]

/-- Push one byte (C14.1). -/
def busPushByte (v : Byte) (s : State) : List BusAccess := [s.busIgnore 1, s.busPush 0 v]

/-- Push two bytes: PHI and PHW (C14.2). -/
def busPushWord (v : Word) (s : State) : List BusAccess := [s.busIgnore 1, s.busPush 0 (hiByte v), s.busPush 1 (loByte v)]

/-- PSH (C14.3). -/
def busPsh (s : State) : List BusAccess := [s.busIgnore 1, s.busPush 0 s.a, s.busPush 1 s.x, s.busPush 2 s.y]

/-- Pull one byte (C14.4). -/
def busPullByte (s : State) : List BusAccess := [s.busIgnore 1, s.busIgnoreStack 0, s.busPull 1]

/-- PLW (C14.5). -/
def busPlw (s : State) : List BusAccess := [s.busIgnore 1, s.busIgnoreStack 0, s.busPull 1, s.busPull 2]

/-- PLI: the read at the new I is ignored (C14.6). -/
def busPli (s : State) : List BusAccess :=
  [s.busIgnore 1, s.busIgnoreStack 0, s.busPull 1, s.busPull 2, .ignored s.top16]

/-- PIA: the read at the new I is used (C14.6). -/
def busPia (s : State) : List BusAccess :=
  [s.busIgnore 1, s.busIgnoreStack 0, s.busPull 1, s.busPull 2, .read s.top16]

/-- PUL (C14.7). -/
def busPul (s : State) : List BusAccess :=
  [s.busIgnore 1, s.busIgnoreStack 0, s.busPull 1, s.busPull 2, s.busPull 3]

/-- JSR: the target bytes are fetched before the pushes (C14.8). -/
def busJsr (s : State) : List BusAccess :=
  [s.busFetch 1, s.busFetch 2, s.busPush 0 (hiByte (s.pc + 3)), s.busPush 1 (loByte (s.pc + 3))]

/-- JSB n (C16). -/
def busJsb (n : Nat) (s : State) : List BusAccess :=
  [s.busIgnore 1, s.busPush 0 (hiByte (s.pc + 1)), s.busPush 1 (loByte (s.pc + 1)), .read (jsbVector n), .read (jsbVector n + 1)]

/-- BRK (C14.9, with the parameters of R418). -/
def busBrk (s : State) : List BusAccess :=
  [s.busIgnore 1, s.busPush 0 (hiByte (s.pc + brkPushedPcOffset)), s.busPush 1 (loByte (s.pc + brkPushedPcOffset)),
    s.busPush 2 (brkImage brkStackedB s.p), .read brkVector, .read (brkVector + 1)]

/-- RTS (C14.10, as printed). -/
def busRts (s : State) : List BusAccess := [s.busIgnore 1, s.busIgnore 1, s.busPull 1, s.busPull 2]

/-- RTI (C14.11, as printed). -/
def busRti (s : State) : List BusAccess := [s.busIgnore 1, s.busIgnore 1, s.busPull 1, s.busPull 2, s.busPull 3]

/-- INI (C17.1). -/
def busIni (s : State) : List BusAccess := [s.busIgnore 1, .ignored s.ireg]

/-- LAI and LAN (C17.2, C17.3). -/
def busLoadI (s : State) : List BusAccess := [s.busIgnore 1, .read s.ireg]

/-- NXT (C17.4). -/
def busNxt (s : State) : List BusAccess := [s.busIgnore 1, .read s.ireg, .read (s.ireg + 1)]

/-- LII (C17.5). -/
def busLii (s : State) : List BusAccess :=
  [s.busIgnore 1, .read s.ireg, .read (s.ireg + 1), .ignored (s.readWord s.ireg)]

/-- The bus accesses of an instruction after its operation-code fetch (R80). -/
def busSequence : Instr → State → List BusAccess
  | .ldaInd n, s => busReadInd n s
  | .ldaZp n, s => busReadZp n s
  | .ldaImm _, s => busImmediate s
  | .ldaAbs nn, s => busReadAbs nn s
  | .ldaIndX n, s => busReadIndX n s
  | .ldaZpX n, s => busReadZpIdx n (eaZpX n s) s
  | .ldaAbsY nn, s => busReadAbsIdx nn s.y s
  | .ldaAbsX nn, s => busReadAbsIdx nn s.x s
  | .ldxImm _, s => busImmediate s
  | .ldxZp n, s => busReadZp n s
  | .ldxAbs nn, s => busReadAbs nn s
  | .ldxZpY n, s => busReadZpIdx n (eaZpY n s) s
  | .ldxAbsY nn, s => busReadAbsIdx nn s.y s
  | .ldyImm _, s => busImmediate s
  | .ldyZp n, s => busReadZp n s
  | .ldyAbs nn, s => busReadAbs nn s
  | .ldyZpX n, s => busReadZpIdx n (eaZpX n s) s
  | .ldyAbsX nn, s => busReadAbsIdx nn s.x s
  | .staInd n, s => busWriteInd n s.a s
  | .staZp n, s => busWriteZp n s.a s
  | .staAbs nn, s => busWriteAbs nn s.a s
  | .staIndX n, s => busWriteIndX n s.a s
  | .staZpX n, s => busWriteZpIdx n (eaZpX n s) s.a s
  | .staAbsY nn, s => busWriteAbsIdx nn s.y s.a s
  | .staAbsX nn, s => busWriteAbsIdx nn s.x s.a s
  | .stxZp n, s => busWriteZp n s.x s
  | .stxAbs nn, s => busWriteAbs nn s.x s
  | .stxZpY n, s => busWriteZpIdx n (eaZpY n s) s.x s
  | .styZp n, s => busWriteZp n s.y s
  | .styAbs nn, s => busWriteAbs nn s.y s
  | .styZpX n, s => busWriteZpIdx n (eaZpX n s) s.y s
  | .sti data n, s => busSti data n s
  | .tax, s => busImplied s
  | .tay, s => busImplied s
  | .txa, s => busImplied s
  | .tya, s => busImplied s
  | .tsx, s => busImplied s
  | .txs, s => busImplied s
  | .exc n, s => busExc n s
  | .adcInd n, s => busReadInd n s
  | .adcZp n, s => busReadZp n s
  | .adcImm _, s => busImmediate s
  | .adcAbs nn, s => busReadAbs nn s
  | .adcIndX n, s => busReadIndX n s
  | .adcZpX n, s => busReadZpIdx n (eaZpX n s) s
  | .adcAbsY nn, s => busReadAbsIdx nn s.y s
  | .adcAbsX nn, s => busReadAbsIdx nn s.x s
  | .addZp n, s => busReadZp n s
  | .addZpX n, s => busReadZpIdx n (eaZpX n s) s
  | .addImm _, s => busImmediate s
  | .sbcInd n, s => busReadInd n s
  | .sbcZp n, s => busReadZp n s
  | .sbcImm _, s => busImmediate s
  | .sbcAbs nn, s => busReadAbs nn s
  | .sbcIndX n, s => busReadIndX n s
  | .sbcZpX n, s => busReadZpIdx n (eaZpX n s) s
  | .sbcAbsY nn, s => busReadAbsIdx nn s.y s
  | .sbcAbsX nn, s => busReadAbsIdx nn s.x s
  | .andInd n, s => busReadInd n s
  | .andZp n, s => busReadZp n s
  | .andImm _, s => busImmediate s
  | .andAbs nn, s => busReadAbs nn s
  | .andIndX n, s => busReadIndX n s
  | .andZpX n, s => busReadZpIdx n (eaZpX n s) s
  | .andAbsY nn, s => busReadAbsIdx nn s.y s
  | .andAbsX nn, s => busReadAbsIdx nn s.x s
  | .oraInd n, s => busReadInd n s
  | .oraZp n, s => busReadZp n s
  | .oraImm _, s => busImmediate s
  | .oraAbs nn, s => busReadAbs nn s
  | .oraIndX n, s => busReadIndX n s
  | .oraZpX n, s => busReadZpIdx n (eaZpX n s) s
  | .oraAbsY nn, s => busReadAbsIdx nn s.y s
  | .oraAbsX nn, s => busReadAbsIdx nn s.x s
  | .eorInd n, s => busReadInd n s
  | .eorZp n, s => busReadZp n s
  | .eorImm _, s => busImmediate s
  | .eorAbs nn, s => busReadAbs nn s
  | .eorIndX n, s => busReadIndX n s
  | .eorZpX n, s => busReadZpIdx n (eaZpX n s) s
  | .eorAbsY nn, s => busReadAbsIdx nn s.y s
  | .eorAbsX nn, s => busReadAbsIdx nn s.x s
  | .cmpInd n, s => busReadInd n s
  | .cmpZp n, s => busReadZp n s
  | .cmpImm _, s => busImmediate s
  | .cmpAbs nn, s => busReadAbs nn s
  | .cmpIndX n, s => busReadIndX n s
  | .cmpZpX n, s => busReadZpIdx n (eaZpX n s) s
  | .cmpAbsY nn, s => busReadAbsIdx nn s.y s
  | .cmpAbsX nn, s => busReadAbsIdx nn s.x s
  | .cpxImm _, s => busImmediate s
  | .cpxZp n, s => busReadZp n s
  | .cpxAbs nn, s => busReadAbs nn s
  | .cpyImm _, s => busImmediate s
  | .cpyZp n, s => busReadZp n s
  | .cpyAbs nn, s => busReadAbs nn s
  | .bitZp n, s => busReadZp n s
  | .bitAbs nn, s => busReadAbs nn s
  | .incZp n, s => busModifyZp n (s.read (eaZp n) + 1) s
  | .incAbs nn, s => busModifyAbs nn (s.read nn + 1) s
  | .incZpX n, s => busModifyZpX n (s.read (eaZpX n s) + 1) s
  | .incAbsX nn, s => busModifyAbsX nn (s.read (eaAbsX nn s) + 1) s
  | .decZp n, s => busModifyZp n (s.read (eaZp n) - 1) s
  | .decAbs nn, s => busModifyAbs nn (s.read nn - 1) s
  | .decZpX n, s => busModifyZpX n (s.read (eaZpX n s) - 1) s
  | .decAbsX nn, s => busModifyAbsX nn (s.read (eaAbsX nn s) - 1) s
  | .inx, s => busImplied s
  | .iny, s => busImplied s
  | .dex, s => busImplied s
  | .dey, s => busImplied s
  | .neg, s => busImplied s
  | .lab, s => busLab s
  | .aslZp n, s => busModifyZp n (aslByte (s.read (eaZp n)) (s.flag .c)).r s
  | .aslAcc, s => busImplied s
  | .aslAbs nn, s => busModifyAbs nn (aslByte (s.read nn) (s.flag .c)).r s
  | .aslZpX n, s => busModifyZpX n (aslByte (s.read (eaZpX n s)) (s.flag .c)).r s
  | .aslAbsX nn, s => busModifyAbsX nn (aslByte (s.read (eaAbsX nn s)) (s.flag .c)).r s
  | .lsrZp n, s => busModifyZp n (lsrByte (s.read (eaZp n)) (s.flag .c)).r s
  | .lsrAcc, s => busImplied s
  | .lsrAbs nn, s => busModifyAbs nn (lsrByte (s.read nn) (s.flag .c)).r s
  | .lsrZpX n, s => busModifyZpX n (lsrByte (s.read (eaZpX n s)) (s.flag .c)).r s
  | .lsrAbsX nn, s => busModifyAbsX nn (lsrByte (s.read (eaAbsX nn s)) (s.flag .c)).r s
  | .rolZp n, s => busModifyZp n (rolByte (s.read (eaZp n)) (s.flag .c)).r s
  | .rolAcc, s => busImplied s
  | .rolAbs nn, s => busModifyAbs nn (rolByte (s.read nn) (s.flag .c)).r s
  | .rolZpX n, s => busModifyZpX n (rolByte (s.read (eaZpX n s)) (s.flag .c)).r s
  | .rolAbsX nn, s => busModifyAbsX nn (rolByte (s.read (eaAbsX nn s)) (s.flag .c)).r s
  | .rorZp n, s => busModifyZp n (rorByte (s.read (eaZp n)) (s.flag .c)).r s
  | .rorAcc, s => busImplied s
  | .rorAbs nn, s => busModifyAbs nn (rorByte (s.read nn) (s.flag .c)).r s
  | .rorZpX n, s => busModifyZpX n (rorByte (s.read (eaZpX n s)) (s.flag .c)).r s
  | .rorAbsX nn, s => busModifyAbsX nn (rorByte (s.read (eaAbsX nn s)) (s.flag .c)).r s
  | .asr, s => busImplied s
  | .mpy, s => busMultiply s
  | .mpa, s => busMultiply s
  | .rnd, s => busImplied s
  | .clw, s => busImplied s
  | .taw, s => busImplied s
  | .twa, s => busImplied s
  | .phw, s => busPushWord s.w s
  | .plw, s => busPlw s
  | .bcc r, s => busBranch (takesBcc s) r s
  | .bcs r, s => busBranch (takesBcs s) r s
  | .beq r, s => busBranch (takesBeq s) r s
  | .bne r, s => busBranch (takesBne s) r s
  | .bmi r, s => busBranch (takesBmi s) r s
  | .bpl r, s => busBranch (takesBpl s) r s
  | .bvc r, s => busBranch (takesBvc s) r s
  | .bvs r, s => busBranch (takesBvs s) r s
  | .bra r, s => busBranch true r s
  | .jmpAbs _, s => busJump s
  | .jmpInd nn, s => busJumpInd nn s
  | .jmpIndX nn, s => busJumpIndX nn s
  | .jsr _, s => busJsr s
  | .jsb0, s => busJsb 0 s
  | .jsb1, s => busJsb 1 s
  | .jsb2, s => busJsb 2 s
  | .jsb3, s => busJsb 3 s
  | .jsb4, s => busJsb 4 s
  | .jsb5, s => busJsb 5 s
  | .jsb6, s => busJsb 6 s
  | .jsb7, s => busJsb 7 s
  | .rts, s => busRts s
  | .rmb0 n, s => busModifyZp n (s.read (eaZp n) &&& ~~~(bitMask 0)) s
  | .rmb1 n, s => busModifyZp n (s.read (eaZp n) &&& ~~~(bitMask 1)) s
  | .rmb2 n, s => busModifyZp n (s.read (eaZp n) &&& ~~~(bitMask 2)) s
  | .rmb3 n, s => busModifyZp n (s.read (eaZp n) &&& ~~~(bitMask 3)) s
  | .rmb4 n, s => busModifyZp n (s.read (eaZp n) &&& ~~~(bitMask 4)) s
  | .rmb5 n, s => busModifyZp n (s.read (eaZp n) &&& ~~~(bitMask 5)) s
  | .rmb6 n, s => busModifyZp n (s.read (eaZp n) &&& ~~~(bitMask 6)) s
  | .rmb7 n, s => busModifyZp n (s.read (eaZp n) &&& ~~~(bitMask 7)) s
  | .smb0 n, s => busModifyZp n (s.read (eaZp n) ||| bitMask 0) s
  | .smb1 n, s => busModifyZp n (s.read (eaZp n) ||| bitMask 1) s
  | .smb2 n, s => busModifyZp n (s.read (eaZp n) ||| bitMask 2) s
  | .smb3 n, s => busModifyZp n (s.read (eaZp n) ||| bitMask 3) s
  | .smb4 n, s => busModifyZp n (s.read (eaZp n) ||| bitMask 4) s
  | .smb5 n, s => busModifyZp n (s.read (eaZp n) ||| bitMask 5) s
  | .smb6 n, s => busModifyZp n (s.read (eaZp n) ||| bitMask 6) s
  | .smb7 n, s => busModifyZp n (s.read (eaZp n) ||| bitMask 7) s
  | .rba mask nn, s => busMask nn (s.read nn &&& ~~~mask) s
  | .sba mask nn, s => busMask nn (s.read nn ||| mask) s
  | .bbr0 n _, s => busBitBranch n s
  | .bbr1 n _, s => busBitBranch n s
  | .bbr2 n _, s => busBitBranch n s
  | .bbr3 n _, s => busBitBranch n s
  | .bbr4 n _, s => busBitBranch n s
  | .bbr5 n _, s => busBitBranch n s
  | .bbr6 n _, s => busBitBranch n s
  | .bbr7 n _, s => busBitBranch n s
  | .bbs0 n _, s => busBitBranch n s
  | .bbs1 n _, s => busBitBranch n s
  | .bbs2 n _, s => busBitBranch n s
  | .bbs3 n _, s => busBitBranch n s
  | .bbs4 n _, s => busBitBranch n s
  | .bbs5 n _, s => busBitBranch n s
  | .bbs6 n _, s => busBitBranch n s
  | .bbs7 n _, s => busBitBranch n s
  | .bar nn _ _, s => busMaskBranch nn s
  | .bas nn _ _, s => busMaskBranch nn s
  | .pha, s => busPushByte s.a s
  | .php, s => busPushByte s.p s
  | .phx, s => busPushByte s.x s
  | .phy, s => busPushByte s.y s
  | .psh, s => busPsh s
  | .pla, s => busPullByte s
  | .plp, s => busPullByte s
  | .plx, s => busPullByte s
  | .ply, s => busPullByte s
  | .pul, s => busPul s
  | .nxt, s => busNxt s
  | .lii, s => busLii s
  | .lai, s => busLoadI s
  | .lan, s => busLoadI s
  | .ini, s => busIni s
  | .phi, s => busPushWord s.ireg s
  | .pli, s => busPli s
  | .jpi nn, s => busJumpInd nn s
  | .tip, s => busImplied s
  | .pia, s => busPia s
  | .clc, s => busImplied s
  | .sec, s => busImplied s
  | .cld, s => busImplied s
  | .sed, s => busImplied s
  | .cli, s => busImplied s
  | .sei, s => busImplied s
  | .clv, s => busImplied s
  | .nop, s => busImplied s
  | .brk, s => busBrk s
  | .rti, s => busRti s

/-- The bus accesses of an interrupt entry (C18.2, R438). -/
def busInterrupt (vector : Word) (s : State) : List BusAccess :=
  [.ignored s.pc, .ignored s.pc, s.busPush 0 (hiByte s.pc), s.busPush 1 (loByte s.pc), s.busPush 2 s.p,
    .read vector, .read (vector + 1)]

/-- The bus accesses of the start sequence (C18.1, R470). Its first address is free. DESIGN CHOICE, unsafe: the S of its three
ignored stack reads, which the source does not give, is the S of `s`, the state in which the reset is taken (93 U11; log 30). -/
def busStart (s : State) : List BusAccess :=
  [.ignored Config.startAddress, .ignored (Config.startAddress + 1), s.busIgnoreStack 0, .ignored (stackAddr (s.sp - 1)),
    .ignored (stackAddr (s.sp - 2)), .read resetVector, .read (resetVector + 1)]

end Sys2Proof.Machine
end

