-- ==== Sys2Proof/Machine/Timing.lean ====
section
/-! DEFINITION. The cycle count of every instruction (30_encoding.md R108, R114; 70_reset_and_hazards.md R481). Timing only: no
result of the machine depends on a count, and State keeps no clock (R480; log 33). -/

namespace Sys2Proof.Machine

/-- Note a for an indexed read: one more cycle when a page boundary is crossed (R114, R142). -/
def crossCycle (base : Word) (idx : Byte) : Nat := if pageCrossed base idx then 1 else 0

/-- Note a for BRA: one more cycle to a different page (R114, R336). -/
def pageCycle (next : Word) (r : Byte) : Nat := if samePage next r then 0 else 1

/-- Note b: nothing if the branch is not taken, 1 to the same page, 2 to a different page (R114, R308, R336). -/
def branchCycles (taken : Bool) (len : Nat) (r : Byte) (s : State) : Nat :=
  if taken then 1 + pageCycle (s.pc + BitVec.ofNat 16 len) r else 0

/-- Note c: one more cycle in decimal mode (R114). -/
def decimalCycle (s : State) : Nat := if s.flag .d then 1 else 0

/-- The cycles an instruction takes from the state at its start (R481). -/
def cycleCount : Instr → State → Nat
  | .ldaInd _, _ => 5
  | .ldaZp _, _ => 3
  | .ldaImm _, _ => 2
  | .ldaAbs _, _ => 4
  | .ldaIndX n, s => 5 + crossCycle (eaInd n s) s.x
  | .ldaZpX _, _ => 4
  | .ldaAbsY nn, s => 4 + crossCycle nn s.y
  | .ldaAbsX nn, s => 4 + crossCycle nn s.x
  | .ldxImm _, _ => 2
  | .ldxZp _, _ => 3
  | .ldxAbs _, _ => 4
  | .ldxZpY _, _ => 4
  | .ldxAbsY nn, s => 4 + crossCycle nn s.y
  | .ldyImm _, _ => 2
  | .ldyZp _, _ => 3
  | .ldyAbs _, _ => 4
  | .ldyZpX _, _ => 4
  | .ldyAbsX nn, s => 4 + crossCycle nn s.x
  | .staInd _, _ => 5
  | .staZp _, _ => 3
  | .staAbs _, _ => 4
  | .staIndX _, _ => 6
  | .staZpX _, _ => 4
  | .staAbsY _, _ => 5
  | .staAbsX _, _ => 5
  | .stxZp _, _ => 3
  | .stxAbs _, _ => 4
  | .stxZpY _, _ => 4
  | .styZp _, _ => 3
  | .styAbs _, _ => 4
  | .styZpX _, _ => 4
  | .sti _ _, _ => 4
  | .tax, _ => 2
  | .tay, _ => 2
  | .txa, _ => 2
  | .tya, _ => 2
  | .tsx, _ => 2
  | .txs, _ => 2
  | .exc _, _ => 5
  | .adcInd _, s => 5 + decimalCycle s
  | .adcZp _, s => 3 + decimalCycle s
  | .adcImm _, s => 2 + decimalCycle s
  | .adcAbs _, s => 4 + decimalCycle s
  | .adcIndX n, s => 5 + crossCycle (eaInd n s) s.x + decimalCycle s
  | .adcZpX _, s => 4 + decimalCycle s
  | .adcAbsY nn, s => 4 + crossCycle nn s.y + decimalCycle s
  | .adcAbsX nn, s => 4 + crossCycle nn s.x + decimalCycle s
  | .addZp _, s => 3 + decimalCycle s
  | .addZpX _, s => 4 + decimalCycle s
  | .addImm _, s => 2 + decimalCycle s
  | .sbcInd _, s => 5 + decimalCycle s
  | .sbcZp _, s => 3 + decimalCycle s
  | .sbcImm _, s => 2 + decimalCycle s
  | .sbcAbs _, s => 4 + decimalCycle s
  | .sbcIndX n, s => 5 + crossCycle (eaInd n s) s.x + decimalCycle s
  | .sbcZpX _, s => 4 + decimalCycle s
  | .sbcAbsY nn, s => 4 + crossCycle nn s.y + decimalCycle s
  | .sbcAbsX nn, s => 4 + crossCycle nn s.x + decimalCycle s
  | .andInd _, _ => 5
  | .andZp _, _ => 3
  | .andImm _, _ => 2
  | .andAbs _, _ => 4
  | .andIndX n, s => 5 + crossCycle (eaInd n s) s.x
  | .andZpX _, _ => 4
  | .andAbsY nn, s => 4 + crossCycle nn s.y
  | .andAbsX nn, s => 4 + crossCycle nn s.x
  | .oraInd _, _ => 5
  | .oraZp _, _ => 3
  | .oraImm _, _ => 2
  | .oraAbs _, _ => 4
  | .oraIndX n, s => 5 + crossCycle (eaInd n s) s.x
  | .oraZpX _, _ => 4
  | .oraAbsY nn, s => 4 + crossCycle nn s.y
  | .oraAbsX nn, s => 4 + crossCycle nn s.x
  | .eorInd _, _ => 5
  | .eorZp _, _ => 3
  | .eorImm _, _ => 2
  | .eorAbs _, _ => 4
  | .eorIndX n, s => 5 + crossCycle (eaInd n s) s.x
  | .eorZpX _, _ => 4
  | .eorAbsY nn, s => 4 + crossCycle nn s.y
  | .eorAbsX nn, s => 4 + crossCycle nn s.x
  | .cmpInd _, _ => 5
  | .cmpZp _, _ => 3
  | .cmpImm _, _ => 2
  | .cmpAbs _, _ => 4
  | .cmpIndX n, s => 5 + crossCycle (eaInd n s) s.x
  | .cmpZpX _, _ => 4
  | .cmpAbsY nn, s => 4 + crossCycle nn s.y
  | .cmpAbsX nn, s => 4 + crossCycle nn s.x
  | .cpxImm _, _ => 2
  | .cpxZp _, _ => 3
  | .cpxAbs _, _ => 4
  | .cpyImm _, _ => 2
  | .cpyZp _, _ => 3
  | .cpyAbs _, _ => 4
  | .bitZp _, _ => 3
  | .bitAbs _, _ => 4
  | .incZp _, _ => 5
  | .incAbs _, _ => 6
  | .incZpX _, _ => 6
  | .incAbsX _, _ => 7
  | .decZp _, _ => 5
  | .decAbs _, _ => 6
  | .decZpX _, _ => 6
  | .decAbsX _, _ => 7
  | .inx, _ => 2
  | .iny, _ => 2
  | .dex, _ => 2
  | .dey, _ => 2
  | .neg, _ => 2
  | .lab, _ => 3
  | .aslZp _, _ => 5
  | .aslAcc, _ => 2
  | .aslAbs _, _ => 6
  | .aslZpX _, _ => 6
  | .aslAbsX _, _ => 7
  | .lsrZp _, _ => 5
  | .lsrAcc, _ => 2
  | .lsrAbs _, _ => 6
  | .lsrZpX _, _ => 6
  | .lsrAbsX _, _ => 7
  | .rolZp _, _ => 5
  | .rolAcc, _ => 2
  | .rolAbs _, _ => 6
  | .rolZpX _, _ => 6
  | .rolAbsX _, _ => 7
  | .rorZp _, _ => 5
  | .rorAcc, _ => 2
  | .rorAbs _, _ => 6
  | .rorZpX _, _ => 6
  | .rorAbsX _, _ => 7
  | .asr, _ => 2
  | .mpy, _ => 6
  | .mpa, _ => 6
  | .rnd, _ => 2
  | .clw, _ => 2
  | .taw, _ => 2
  | .twa, _ => 2
  | .phw, _ => 4
  | .plw, _ => 5
  | .bcc r, s => 2 + branchCycles (takesBcc s) 2 r s
  | .bcs r, s => 2 + branchCycles (takesBcs s) 2 r s
  | .beq r, s => 2 + branchCycles (takesBeq s) 2 r s
  | .bne r, s => 2 + branchCycles (takesBne s) 2 r s
  | .bmi r, s => 2 + branchCycles (takesBmi s) 2 r s
  | .bpl r, s => 2 + branchCycles (takesBpl s) 2 r s
  | .bvc r, s => 2 + branchCycles (takesBvc s) 2 r s
  | .bvs r, s => 2 + branchCycles (takesBvs s) 2 r s
  | .bra r, s => 3 + pageCycle (s.pc + 2) r
  | .jmpAbs _, _ => 3
  | .jmpInd _, _ => 5
  | .jmpIndX _, _ => 6
  | .jsr _, _ => 5
  | .jsb0, _ => 6
  | .jsb1, _ => 6
  | .jsb2, _ => 6
  | .jsb3, _ => 6
  | .jsb4, _ => 6
  | .jsb5, _ => 6
  | .jsb6, _ => 6
  | .jsb7, _ => 6
  | .rts, _ => 5
  | .rmb0 _, _ => 5
  | .rmb1 _, _ => 5
  | .rmb2 _, _ => 5
  | .rmb3 _, _ => 5
  | .rmb4 _, _ => 5
  | .rmb5 _, _ => 5
  | .rmb6 _, _ => 5
  | .rmb7 _, _ => 5
  | .smb0 _, _ => 5
  | .smb1 _, _ => 5
  | .smb2 _, _ => 5
  | .smb3 _, _ => 5
  | .smb4 _, _ => 5
  | .smb5 _, _ => 5
  | .smb6 _, _ => 5
  | .smb7 _, _ => 5
  | .rba _ _, _ => 7
  | .sba _ _, _ => 7
  | .bbr0 n r, s => 5 + branchCycles (takesBbr 0 n s) 3 r s
  | .bbr1 n r, s => 5 + branchCycles (takesBbr 1 n s) 3 r s
  | .bbr2 n r, s => 5 + branchCycles (takesBbr 2 n s) 3 r s
  | .bbr3 n r, s => 5 + branchCycles (takesBbr 3 n s) 3 r s
  | .bbr4 n r, s => 5 + branchCycles (takesBbr 4 n s) 3 r s
  | .bbr5 n r, s => 5 + branchCycles (takesBbr 5 n s) 3 r s
  | .bbr6 n r, s => 5 + branchCycles (takesBbr 6 n s) 3 r s
  | .bbr7 n r, s => 5 + branchCycles (takesBbr 7 n s) 3 r s
  | .bbs0 n r, s => 5 + branchCycles (takesBbs 0 n s) 3 r s
  | .bbs1 n r, s => 5 + branchCycles (takesBbs 1 n s) 3 r s
  | .bbs2 n r, s => 5 + branchCycles (takesBbs 2 n s) 3 r s
  | .bbs3 n r, s => 5 + branchCycles (takesBbs 3 n s) 3 r s
  | .bbs4 n r, s => 5 + branchCycles (takesBbs 4 n s) 3 r s
  | .bbs5 n r, s => 5 + branchCycles (takesBbs 5 n s) 3 r s
  | .bbs6 n r, s => 5 + branchCycles (takesBbs 6 n s) 3 r s
  | .bbs7 n r, s => 5 + branchCycles (takesBbs 7 n s) 3 r s
  | .bar nn mask r, s => 7 + branchCycles (takesBar nn mask s) 5 r s
  | .bas nn mask r, s => 7 + branchCycles (takesBas nn mask s) 5 r s
  | .pha, _ => 3
  | .php, _ => 3
  | .phx, _ => 3
  | .phy, _ => 3
  | .psh, _ => 5
  | .pla, _ => 4
  | .plp, _ => 4
  | .plx, _ => 4
  | .ply, _ => 4
  | .pul, _ => 6
  | .nxt, _ => 4
  | .lii, _ => 5
  | .lai, _ => 3
  | .lan, _ => 3
  | .ini, _ => 3
  | .phi, _ => 4
  | .pli, _ => 6
  | .jpi _, _ => 5
  | .tip, _ => 2
  | .pia, _ => 6
  | .clc, _ => 2
  | .sec, _ => 2
  | .cld, _ => 2
  | .sed, _ => 2
  | .cli, _ => 2
  | .sei, _ => 2
  | .clv, _ => 2
  | .nop, _ => 2
  | .brk, _ => 7
  | .rti, _ => 6

/-- The cycles of an interrupt entry and of the start sequence (R438, R481). -/
def entryCycles : Nat := 7

end Sys2Proof.Machine
end

