-- ==== Sys2Proof/Safety.lean ====
section
/-! DEFINITION. What counts as a safe run and as its end, and the terms the claims use: what an instruction leaves unchanged,
that it completes, and the operation codes of each mnemonic with their bytes, cycles and operands as files 41 to 49 list them. -/

namespace Sys2Proof.Machine

/-! ## Runs -/

/-- A run of `k` steps meets no Not Used operation code, the one thing that stops the machine (R431, R433). -/
def SafeFor (k : Nat) (s : State) : Prop := ∃ t, Sys2Proof.core.run k s = .next t

/-- The end of a run, a convention of the observer (R484; log 36): the instruction at PC transfers control to its own address and no
event is accepted before or after it. BRK is no such instruction, so BRK with no handler and unprogrammed memory are not covered. -/
def runEnded (s : State) : Bool :=
  s.acceptedEvent.isNone &&
  match s.fetchInstr with
  | .error _ => false
  | .ok i => decide (i ≠ .brk) &&
    match exec i s with
    | .next t => t.pc == s.pc && t.acceptedEvent.isNone
    | _ => false

/-! ## Frames -/

/-- The registers other than PC and P. -/
inductive Reg where
  | a | x | y | s | w | i
  deriving DecidableEq, Repr

/-- The value of a register, zero-extended to 16 bits. -/
def State.reg (st : State) : Reg → Word
  | .a => st.a.setWidth 16
  | .x => st.x.setWidth 16
  | .y => st.y.setWidth 16
  | .s => st.sp.setWidth 16
  | .w => st.w
  | .i => st.ireg

/-- Every register but those listed is unchanged (R194). -/
def KeepsRegs (except : List Reg) (s t : State) : Prop := ∀ r, r ∉ except → t.reg r = s.reg r

/-- Every bit of P but those listed is unchanged (R194). -/
def KeepsFlags (except : List Flag) (s t : State) : Prop := ∀ f, f ∉ except → t.flag f = s.flag f

/-- Every byte of memory but those at the listed addresses reads as before (R194). -/
def KeepsMemory (except : List Word) (s t : State) : Prop := ∀ addr, addr ∉ except → t.read addr = s.read addr

/-- What is the platform's is unchanged: the pending requests and the map of ROM (R434, R436, R61). -/
def KeepsPlatform (s t : State) : Prop :=
  t.resetRequest = s.resetRequest ∧ t.nmiRequest = s.nmiRequest ∧ t.irqRequests = s.irqRequests ∧ t.rom = s.rom

/-- Where `addr` is RAM, `v` is the byte that `t` reads there: what a write of `v` at `addr` in `s` leaves (R68). A ROM address keeps
its byte: the obligation WritesReachRamAndNotRom says so once for every instruction. -/
def Stored (addr : Word) (v : Byte) (s t : State) : Prop := s.isRom addr = false → t.read addr = v

/-- What an instruction may change besides PC: the listed registers, flags and bytes of memory; nothing else (R194). -/
def Frame (regs : List Reg) (flags : List Flag) (addrs : List Word) (s t : State) : Prop :=
  KeepsRegs regs s t ∧ KeepsFlags flags s t ∧ KeepsMemory addrs s t ∧ KeepsPlatform s t

/-- The instruction completes: `exec` answers a next state, and that state satisfies `Q` (R194). -/
def Completes (i : Instr) (s : State) (Q : State → Prop) : Prop := ∃ t, exec i s = .next t ∧ Q t

/-- N is bit 7 of `v` and Z says that `v` is zero (R13). -/
def FlagsNZ (v : Byte) (t : State) : Prop := t.flag .n = v.getLsbD 7 ∧ t.flag .z = decide (v.toNat = 0)

/-! ## Operation codes with their bytes, cycles and operand -/

/-- One encoding line of an instruction rule: the instruction, its bytes, its cycles and bus accesses in the given state, and the
operand it uses (the value of a read form, the address of a write form, the condition of a branch). -/
structure Line (α : Type) where
  instr : Instr
  bytes : List Byte
  cycles : Nat
  bus : List BusAccess
  operand : α

/-- The line's bytes, cycles and bus accesses are those of its instruction (R101, R481, R80). -/
def Line.holds {α : Type} (l : Line α) (s : State) : Prop :=
  encode l.instr = l.bytes ∧ cycleCount l.instr s = l.cycles ∧ busSequence l.instr s = l.bus

/-- The address of the instruction after the line's (`PCnext`, R27). -/
def Line.after {α : Type} (l : Line α) (s : State) : Word := s.pc + BitVec.ofNat 16 l.bytes.length

/-- The line's instruction is as printed, completes, goes on at the next instruction, and the state it leaves satisfies `Q`. -/
def Line.does {α : Type} (l : Line α) (s : State) (Q : State → Prop) : Prop :=
  l.holds s ∧ Completes l.instr s (fun t => t.pc = l.after s ∧ Q t)

/-- The line's instruction is as printed, completes, transfers control to `target`, and the state it leaves satisfies `Q`. -/
def Line.jumps {α : Type} (l : Line α) (s : State) (target : Word) (Q : State → Prop) : Prop :=
  l.holds s ∧ Completes l.instr s (fun t => t.pc = target ∧ Q t)

/-- The encoding lines of LDA with the value each reads (R180). -/
def linesLda (n : Byte) (nn : Word) (s : State) : List (Line Byte) :=
  [⟨.ldaImm n, [0xA9, n], 2, busImmediate s, n⟩,
   ⟨.ldaZp n, [0xA5, n], 3, busReadZp n s, s.read (eaZp n)⟩,
   ⟨.ldaZpX n, [0xB5, n], 4, busReadZpIdx n (eaZpX n s) s, s.read (eaZpX n s)⟩,
   ⟨.ldaAbs nn, [0xAD, loByte nn, hiByte nn], 4, busReadAbs nn s, s.read nn⟩,
   ⟨.ldaAbsX nn, [0xBD, loByte nn, hiByte nn], 4 + crossCycle nn s.x, busReadAbsIdx nn s.x s, s.read (eaAbsX nn s)⟩,
   ⟨.ldaAbsY nn, [0xB9, loByte nn, hiByte nn], 4 + crossCycle nn s.y, busReadAbsIdx nn s.y s, s.read (eaAbsY nn s)⟩,
   ⟨.ldaInd n, [0xA1, n], 5, busReadInd n s, s.read (eaInd n s)⟩,
   ⟨.ldaIndX n, [0xB1, n], 5 + crossCycle (eaInd n s) s.x, busReadIndX n s, s.read (eaIndX n s)⟩]

/-- The encoding lines of LDX with the value each reads (R181). -/
def linesLdx (n : Byte) (nn : Word) (s : State) : List (Line Byte) :=
  [⟨.ldxImm n, [0xA2, n], 2, busImmediate s, n⟩,
   ⟨.ldxZp n, [0xA6, n], 3, busReadZp n s, s.read (eaZp n)⟩,
   ⟨.ldxZpY n, [0xB6, n], 4, busReadZpIdx n (eaZpY n s) s, s.read (eaZpY n s)⟩,
   ⟨.ldxAbs nn, [0xAE, loByte nn, hiByte nn], 4, busReadAbs nn s, s.read nn⟩,
   ⟨.ldxAbsY nn, [0xBE, loByte nn, hiByte nn], 4 + crossCycle nn s.y, busReadAbsIdx nn s.y s, s.read (eaAbsY nn s)⟩]

/-- The encoding lines of LDY with the value each reads (R182). -/
def linesLdy (n : Byte) (nn : Word) (s : State) : List (Line Byte) :=
  [⟨.ldyImm n, [0xA0, n], 2, busImmediate s, n⟩,
   ⟨.ldyZp n, [0xA4, n], 3, busReadZp n s, s.read (eaZp n)⟩,
   ⟨.ldyZpX n, [0xB4, n], 4, busReadZpIdx n (eaZpX n s) s, s.read (eaZpX n s)⟩,
   ⟨.ldyAbs nn, [0xAC, loByte nn, hiByte nn], 4, busReadAbs nn s, s.read nn⟩,
   ⟨.ldyAbsX nn, [0xBC, loByte nn, hiByte nn], 4 + crossCycle nn s.x, busReadAbsIdx nn s.x s, s.read (eaAbsX nn s)⟩]

/-- The encoding lines of ADC with the value each reads (R225). -/
def linesAdc (n : Byte) (nn : Word) (s : State) : List (Line Byte) :=
  [⟨.adcImm n, [0x69, n], 2 + decimalCycle s, busImmediate s, n⟩,
   ⟨.adcZp n, [0x65, n], 3 + decimalCycle s, busReadZp n s, s.read (eaZp n)⟩,
   ⟨.adcZpX n, [0x75, n], 4 + decimalCycle s, busReadZpIdx n (eaZpX n s) s, s.read (eaZpX n s)⟩,
   ⟨.adcAbs nn, [0x6D, loByte nn, hiByte nn], 4 + decimalCycle s, busReadAbs nn s, s.read nn⟩,
   ⟨.adcAbsX nn, [0x7D, loByte nn, hiByte nn], 4 + crossCycle nn s.x + decimalCycle s, busReadAbsIdx nn s.x s, s.read (eaAbsX nn s)⟩,
   ⟨.adcAbsY nn, [0x79, loByte nn, hiByte nn], 4 + crossCycle nn s.y + decimalCycle s, busReadAbsIdx nn s.y s, s.read (eaAbsY nn s)⟩,
   ⟨.adcInd n, [0x61, n], 5 + decimalCycle s, busReadInd n s, s.read (eaInd n s)⟩,
   ⟨.adcIndX n, [0x71, n], 5 + crossCycle (eaInd n s) s.x + decimalCycle s, busReadIndX n s, s.read (eaIndX n s)⟩]

/-- The encoding lines of ADD with the value each reads (R226). -/
def linesAdd (n : Byte) (_nn : Word) (s : State) : List (Line Byte) :=
  [⟨.addImm n, [0x89, n], 2 + decimalCycle s, busImmediate s, n⟩,
   ⟨.addZp n, [0x64, n], 3 + decimalCycle s, busReadZp n s, s.read (eaZp n)⟩,
   ⟨.addZpX n, [0x74, n], 4 + decimalCycle s, busReadZpIdx n (eaZpX n s) s, s.read (eaZpX n s)⟩]

/-- The encoding lines of SBC with the value each reads (R227). -/
def linesSbc (n : Byte) (nn : Word) (s : State) : List (Line Byte) :=
  [⟨.sbcImm n, [0xE9, n], 2 + decimalCycle s, busImmediate s, n⟩,
   ⟨.sbcZp n, [0xE5, n], 3 + decimalCycle s, busReadZp n s, s.read (eaZp n)⟩,
   ⟨.sbcZpX n, [0xF5, n], 4 + decimalCycle s, busReadZpIdx n (eaZpX n s) s, s.read (eaZpX n s)⟩,
   ⟨.sbcAbs nn, [0xED, loByte nn, hiByte nn], 4 + decimalCycle s, busReadAbs nn s, s.read nn⟩,
   ⟨.sbcAbsX nn, [0xFD, loByte nn, hiByte nn], 4 + crossCycle nn s.x + decimalCycle s, busReadAbsIdx nn s.x s, s.read (eaAbsX nn s)⟩,
   ⟨.sbcAbsY nn, [0xF9, loByte nn, hiByte nn], 4 + crossCycle nn s.y + decimalCycle s, busReadAbsIdx nn s.y s, s.read (eaAbsY nn s)⟩,
   ⟨.sbcInd n, [0xE1, n], 5 + decimalCycle s, busReadInd n s, s.read (eaInd n s)⟩,
   ⟨.sbcIndX n, [0xF1, n], 5 + crossCycle (eaInd n s) s.x + decimalCycle s, busReadIndX n s, s.read (eaIndX n s)⟩]

/-- The encoding lines of AND with the value each reads (R228). -/
def linesAnd (n : Byte) (nn : Word) (s : State) : List (Line Byte) :=
  [⟨.andImm n, [0x29, n], 2, busImmediate s, n⟩,
   ⟨.andZp n, [0x25, n], 3, busReadZp n s, s.read (eaZp n)⟩,
   ⟨.andZpX n, [0x35, n], 4, busReadZpIdx n (eaZpX n s) s, s.read (eaZpX n s)⟩,
   ⟨.andAbs nn, [0x2D, loByte nn, hiByte nn], 4, busReadAbs nn s, s.read nn⟩,
   ⟨.andAbsX nn, [0x3D, loByte nn, hiByte nn], 4 + crossCycle nn s.x, busReadAbsIdx nn s.x s, s.read (eaAbsX nn s)⟩,
   ⟨.andAbsY nn, [0x39, loByte nn, hiByte nn], 4 + crossCycle nn s.y, busReadAbsIdx nn s.y s, s.read (eaAbsY nn s)⟩,
   ⟨.andInd n, [0x21, n], 5, busReadInd n s, s.read (eaInd n s)⟩,
   ⟨.andIndX n, [0x31, n], 5 + crossCycle (eaInd n s) s.x, busReadIndX n s, s.read (eaIndX n s)⟩]

/-- The encoding lines of ORA with the value each reads (R229). -/
def linesOra (n : Byte) (nn : Word) (s : State) : List (Line Byte) :=
  [⟨.oraImm n, [0x09, n], 2, busImmediate s, n⟩,
   ⟨.oraZp n, [0x05, n], 3, busReadZp n s, s.read (eaZp n)⟩,
   ⟨.oraZpX n, [0x15, n], 4, busReadZpIdx n (eaZpX n s) s, s.read (eaZpX n s)⟩,
   ⟨.oraAbs nn, [0x0D, loByte nn, hiByte nn], 4, busReadAbs nn s, s.read nn⟩,
   ⟨.oraAbsX nn, [0x1D, loByte nn, hiByte nn], 4 + crossCycle nn s.x, busReadAbsIdx nn s.x s, s.read (eaAbsX nn s)⟩,
   ⟨.oraAbsY nn, [0x19, loByte nn, hiByte nn], 4 + crossCycle nn s.y, busReadAbsIdx nn s.y s, s.read (eaAbsY nn s)⟩,
   ⟨.oraInd n, [0x01, n], 5, busReadInd n s, s.read (eaInd n s)⟩,
   ⟨.oraIndX n, [0x11, n], 5 + crossCycle (eaInd n s) s.x, busReadIndX n s, s.read (eaIndX n s)⟩]

/-- The encoding lines of EOR with the value each reads (R230). -/
def linesEor (n : Byte) (nn : Word) (s : State) : List (Line Byte) :=
  [⟨.eorImm n, [0x49, n], 2, busImmediate s, n⟩,
   ⟨.eorZp n, [0x45, n], 3, busReadZp n s, s.read (eaZp n)⟩,
   ⟨.eorZpX n, [0x55, n], 4, busReadZpIdx n (eaZpX n s) s, s.read (eaZpX n s)⟩,
   ⟨.eorAbs nn, [0x4D, loByte nn, hiByte nn], 4, busReadAbs nn s, s.read nn⟩,
   ⟨.eorAbsX nn, [0x5D, loByte nn, hiByte nn], 4 + crossCycle nn s.x, busReadAbsIdx nn s.x s, s.read (eaAbsX nn s)⟩,
   ⟨.eorAbsY nn, [0x59, loByte nn, hiByte nn], 4 + crossCycle nn s.y, busReadAbsIdx nn s.y s, s.read (eaAbsY nn s)⟩,
   ⟨.eorInd n, [0x41, n], 5, busReadInd n s, s.read (eaInd n s)⟩,
   ⟨.eorIndX n, [0x51, n], 5 + crossCycle (eaInd n s) s.x, busReadIndX n s, s.read (eaIndX n s)⟩]

/-- The encoding lines of CMP with the value each reads (R231). -/
def linesCmp (n : Byte) (nn : Word) (s : State) : List (Line Byte) :=
  [⟨.cmpImm n, [0xC9, n], 2, busImmediate s, n⟩,
   ⟨.cmpZp n, [0xC5, n], 3, busReadZp n s, s.read (eaZp n)⟩,
   ⟨.cmpZpX n, [0xD5, n], 4, busReadZpIdx n (eaZpX n s) s, s.read (eaZpX n s)⟩,
   ⟨.cmpAbs nn, [0xCD, loByte nn, hiByte nn], 4, busReadAbs nn s, s.read nn⟩,
   ⟨.cmpAbsX nn, [0xDD, loByte nn, hiByte nn], 4 + crossCycle nn s.x, busReadAbsIdx nn s.x s, s.read (eaAbsX nn s)⟩,
   ⟨.cmpAbsY nn, [0xD9, loByte nn, hiByte nn], 4 + crossCycle nn s.y, busReadAbsIdx nn s.y s, s.read (eaAbsY nn s)⟩,
   ⟨.cmpInd n, [0xC1, n], 5, busReadInd n s, s.read (eaInd n s)⟩,
   ⟨.cmpIndX n, [0xD1, n], 5 + crossCycle (eaInd n s) s.x, busReadIndX n s, s.read (eaIndX n s)⟩]

/-- The encoding lines of CPX with the value each reads (R232). -/
def linesCpx (n : Byte) (nn : Word) (s : State) : List (Line Byte) :=
  [⟨.cpxImm n, [0xE0, n], 2, busImmediate s, n⟩,
   ⟨.cpxZp n, [0xE4, n], 3, busReadZp n s, s.read (eaZp n)⟩,
   ⟨.cpxAbs nn, [0xEC, loByte nn, hiByte nn], 4, busReadAbs nn s, s.read nn⟩]

/-- The encoding lines of CPY with the value each reads (R233). -/
def linesCpy (n : Byte) (nn : Word) (s : State) : List (Line Byte) :=
  [⟨.cpyImm n, [0xC0, n], 2, busImmediate s, n⟩,
   ⟨.cpyZp n, [0xC4, n], 3, busReadZp n s, s.read (eaZp n)⟩,
   ⟨.cpyAbs nn, [0xCC, loByte nn, hiByte nn], 4, busReadAbs nn s, s.read nn⟩]

/-- The encoding lines of BIT with the value each reads (R234). -/
def linesBit (n : Byte) (nn : Word) (s : State) : List (Line Byte) :=
  [⟨.bitZp n, [0x24, n], 3, busReadZp n s, s.read (eaZp n)⟩,
   ⟨.bitAbs nn, [0x2C, loByte nn, hiByte nn], 4, busReadAbs nn s, s.read nn⟩]

/-- The encoding lines of STA in memory with the address each writes (R183). -/
def linesSta (n : Byte) (nn : Word) (s : State) : List (Line Word) :=
  [⟨.staZp n, [0x85, n], 3, busWriteZp n s.a s, eaZp n⟩,
   ⟨.staZpX n, [0x95, n], 4, busWriteZpIdx n (eaZpX n s) s.a s, eaZpX n s⟩,
   ⟨.staAbs nn, [0x8D, loByte nn, hiByte nn], 4, busWriteAbs nn s.a s, nn⟩,
   ⟨.staAbsX nn, [0x9D, loByte nn, hiByte nn], 5, busWriteAbsIdx nn s.x s.a s, eaAbsX nn s⟩,
   ⟨.staAbsY nn, [0x99, loByte nn, hiByte nn], 5, busWriteAbsIdx nn s.y s.a s, eaAbsY nn s⟩,
   ⟨.staInd n, [0x81, n], 5, busWriteInd n s.a s, eaInd n s⟩,
   ⟨.staIndX n, [0x91, n], 6, busWriteIndX n s.a s, eaIndX n s⟩]

/-- The encoding lines of STX in memory with the address each writes (R184). -/
def linesStx (n : Byte) (nn : Word) (s : State) : List (Line Word) :=
  [⟨.stxZp n, [0x86, n], 3, busWriteZp n s.x s, eaZp n⟩,
   ⟨.stxZpY n, [0x96, n], 4, busWriteZpIdx n (eaZpY n s) s.x s, eaZpY n s⟩,
   ⟨.stxAbs nn, [0x8E, loByte nn, hiByte nn], 4, busWriteAbs nn s.x s, nn⟩]

/-- The encoding lines of STY in memory with the address each writes (R185). -/
def linesSty (n : Byte) (nn : Word) (s : State) : List (Line Word) :=
  [⟨.styZp n, [0x84, n], 3, busWriteZp n s.y s, eaZp n⟩,
   ⟨.styZpX n, [0x94, n], 4, busWriteZpIdx n (eaZpX n s) s.y s, eaZpX n s⟩,
   ⟨.styAbs nn, [0x8C, loByte nn, hiByte nn], 4, busWriteAbs nn s.y s, nn⟩]

/-- The encoding lines of INC in memory with the address each writes (R235). -/
def linesInc (n : Byte) (nn : Word) (s : State) : List (Line Word) :=
  [⟨.incZp n, [0xE6, n], 5, busModifyZp n (s.read (eaZp n) + 1) s, eaZp n⟩,
   ⟨.incZpX n, [0xF6, n], 6, busModifyZpX n (s.read (eaZpX n s) + 1) s, eaZpX n s⟩,
   ⟨.incAbs nn, [0xEE, loByte nn, hiByte nn], 6, busModifyAbs nn (s.read nn + 1) s, nn⟩,
   ⟨.incAbsX nn, [0xFE, loByte nn, hiByte nn], 7, busModifyAbsX nn (s.read (eaAbsX nn s) + 1) s, eaAbsX nn s⟩]

/-- The encoding lines of DEC in memory with the address each writes (R236). -/
def linesDec (n : Byte) (nn : Word) (s : State) : List (Line Word) :=
  [⟨.decZp n, [0xC6, n], 5, busModifyZp n (s.read (eaZp n) - 1) s, eaZp n⟩,
   ⟨.decZpX n, [0xD6, n], 6, busModifyZpX n (s.read (eaZpX n s) - 1) s, eaZpX n s⟩,
   ⟨.decAbs nn, [0xCE, loByte nn, hiByte nn], 6, busModifyAbs nn (s.read nn - 1) s, nn⟩,
   ⟨.decAbsX nn, [0xDE, loByte nn, hiByte nn], 7, busModifyAbsX nn (s.read (eaAbsX nn s) - 1) s, eaAbsX nn s⟩]

/-- The encoding lines of ASL in memory with the address each writes (R260). -/
def linesAsl (n : Byte) (nn : Word) (s : State) : List (Line Word) :=
  [⟨.aslZp n, [0x06, n], 5, busModifyZp n (aslByte (s.read (eaZp n)) (s.flag .c)).r s, eaZp n⟩,
   ⟨.aslZpX n, [0x16, n], 6, busModifyZpX n (aslByte (s.read (eaZpX n s)) (s.flag .c)).r s, eaZpX n s⟩,
   ⟨.aslAbs nn, [0x0E, loByte nn, hiByte nn], 6, busModifyAbs nn (aslByte (s.read nn) (s.flag .c)).r s, nn⟩,
   ⟨.aslAbsX nn, [0x1E, loByte nn, hiByte nn], 7, busModifyAbsX nn (aslByte (s.read (eaAbsX nn s)) (s.flag .c)).r s, eaAbsX nn s⟩]

/-- The encoding lines of LSR in memory with the address each writes (R261). -/
def linesLsr (n : Byte) (nn : Word) (s : State) : List (Line Word) :=
  [⟨.lsrZp n, [0x46, n], 5, busModifyZp n (lsrByte (s.read (eaZp n)) (s.flag .c)).r s, eaZp n⟩,
   ⟨.lsrZpX n, [0x56, n], 6, busModifyZpX n (lsrByte (s.read (eaZpX n s)) (s.flag .c)).r s, eaZpX n s⟩,
   ⟨.lsrAbs nn, [0x4E, loByte nn, hiByte nn], 6, busModifyAbs nn (lsrByte (s.read nn) (s.flag .c)).r s, nn⟩,
   ⟨.lsrAbsX nn, [0x5E, loByte nn, hiByte nn], 7, busModifyAbsX nn (lsrByte (s.read (eaAbsX nn s)) (s.flag .c)).r s, eaAbsX nn s⟩]

/-- The encoding lines of ROL in memory with the address each writes (R262). -/
def linesRol (n : Byte) (nn : Word) (s : State) : List (Line Word) :=
  [⟨.rolZp n, [0x26, n], 5, busModifyZp n (rolByte (s.read (eaZp n)) (s.flag .c)).r s, eaZp n⟩,
   ⟨.rolZpX n, [0x36, n], 6, busModifyZpX n (rolByte (s.read (eaZpX n s)) (s.flag .c)).r s, eaZpX n s⟩,
   ⟨.rolAbs nn, [0x2E, loByte nn, hiByte nn], 6, busModifyAbs nn (rolByte (s.read nn) (s.flag .c)).r s, nn⟩,
   ⟨.rolAbsX nn, [0x3E, loByte nn, hiByte nn], 7, busModifyAbsX nn (rolByte (s.read (eaAbsX nn s)) (s.flag .c)).r s, eaAbsX nn s⟩]

/-- The encoding lines of ROR in memory with the address each writes (R263). -/
def linesRor (n : Byte) (nn : Word) (s : State) : List (Line Word) :=
  [⟨.rorZp n, [0x66, n], 5, busModifyZp n (rorByte (s.read (eaZp n)) (s.flag .c)).r s, eaZp n⟩,
   ⟨.rorZpX n, [0x76, n], 6, busModifyZpX n (rorByte (s.read (eaZpX n s)) (s.flag .c)).r s, eaZpX n s⟩,
   ⟨.rorAbs nn, [0x6E, loByte nn, hiByte nn], 6, busModifyAbs nn (rorByte (s.read nn) (s.flag .c)).r s, nn⟩,
   ⟨.rorAbsX nn, [0x7E, loByte nn, hiByte nn], 7, busModifyAbsX nn (rorByte (s.read (eaAbsX nn s)) (s.flag .c)).r s, eaAbsX nn s⟩]

/-- The eight RMB instructions by bit number (R300). -/
def rmbInstr (k : Fin 8) (n : Byte) : Instr :=
  [Instr.rmb0 n, .rmb1 n, .rmb2 n, .rmb3 n, .rmb4 n, .rmb5 n, .rmb6 n, .rmb7 n].getD k (.rmb0 n)

/-- The eight SMB instructions by bit number (R301). -/
def smbInstr (k : Fin 8) (n : Byte) : Instr :=
  [Instr.smb0 n, .smb1 n, .smb2 n, .smb3 n, .smb4 n, .smb5 n, .smb6 n, .smb7 n].getD k (.smb0 n)

/-- The eight BBR instructions by bit number (R304). -/
def bbrInstr (k : Fin 8) (n r : Byte) : Instr :=
  [Instr.bbr0 n r, .bbr1 n r, .bbr2 n r, .bbr3 n r, .bbr4 n r, .bbr5 n r, .bbr6 n r, .bbr7 n r].getD k (.bbr0 n r)

/-- The eight BBS instructions by bit number (R305). -/
def bbsInstr (k : Fin 8) (n r : Byte) : Instr :=
  [Instr.bbs0 n r, .bbs1 n r, .bbs2 n r, .bbs3 n r, .bbs4 n r, .bbs5 n r, .bbs6 n r, .bbs7 n r].getD k (.bbs0 n r)

/-- The eight JSB instructions by vector number (R334). -/
def jsbInstr (k : Fin 8) : Instr :=
  [Instr.jsb0, .jsb1, .jsb2, .jsb3, .jsb4, .jsb5, .jsb6, .jsb7].getD k .jsb0

/-- The operation code of a bit-addressed family: the bit number in bits 6 to 4 (R102). -/
def bitOpcode (base : Byte) (k : Fin 8) : Byte := base + BitVec.ofNat 8 (16 * k)

/-- The eight conditional branches and the condition of each, as the flags say it (R321 to R328). -/
def conditionalBranches (r : Byte) (s : State) : List (Line Bool) :=
  [⟨.bcc r, [0x90, r], 2 + branchCycles (!s.flag .c) 2 r s, busBranch (!s.flag .c) r s, !s.flag .c⟩,
   ⟨.bcs r, [0xB0, r], 2 + branchCycles (s.flag .c) 2 r s, busBranch (s.flag .c) r s, s.flag .c⟩,
   ⟨.beq r, [0xF0, r], 2 + branchCycles (s.flag .z) 2 r s, busBranch (s.flag .z) r s, s.flag .z⟩,
   ⟨.bne r, [0xD0, r], 2 + branchCycles (!s.flag .z) 2 r s, busBranch (!s.flag .z) r s, !s.flag .z⟩,
   ⟨.bmi r, [0x30, r], 2 + branchCycles (s.flag .n) 2 r s, busBranch (s.flag .n) r s, s.flag .n⟩,
   ⟨.bpl r, [0x10, r], 2 + branchCycles (!s.flag .n) 2 r s, busBranch (!s.flag .n) r s, !s.flag .n⟩,
   ⟨.bvc r, [0x50, r], 2 + branchCycles (!s.flag .v) 2 r s, busBranch (!s.flag .v) r s, !s.flag .v⟩,
   ⟨.bvs r, [0x70, r], 2 + branchCycles (s.flag .v) 2 r s, busBranch (s.flag .v) r s, s.flag .v⟩]

/-- The mnemonics whose instructions can write a register (the Operation parts of files 41 to 49). -/
def regWriters : Reg → List String
  | .a => ["LDA", "TXA", "TYA", "EXC", "ADC", "ADD", "SBC", "AND", "ORA", "EOR", "NEG", "LAB", "ASL", "LSR", "ROL", "ROR", "ASR",
      "MPY", "RND", "TWA", "RBA", "SBA", "PLA", "PUL", "LAI", "LAN", "PIA"]
  | .x => ["LDX", "TAX", "TSX", "INX", "DEX", "PLX", "PUL", "PIA"]
  | .y => ["LDY", "TAY", "INY", "DEY", "MPY", "MPA", "RND", "PLY", "PUL"]
  | .s => ["TXS", "PHA", "PHP", "PHX", "PHY", "PSH", "PLA", "PLP", "PLX", "PLY", "PUL", "PHW", "PLW", "PHI", "PLI", "PIA",
      "JSR", "JSB", "RTS", "BRK", "RTI"]
  | .w => ["MPA", "CLW", "TAW", "PLW"]
  | .i => ["NXT", "LII", "LAN", "INI", "PLI", "JPI", "PIA"]

/-- The mnemonics whose instructions can write a bit of P (the Flags parts of files 41 to 49; the table of R31). -/
def flagWriters : Flag → List String
  | .n => ["LDA", "LDX", "LDY", "TAX", "TAY", "TXA", "TYA", "TSX", "ADC", "ADD", "SBC", "AND", "ORA", "EOR", "CMP", "CPX", "CPY",
      "BIT", "INC", "DEC", "INX", "INY", "DEX", "DEY", "NEG", "LAB", "ASL", "LSR", "ROL", "ROR", "ASR", "MPY", "MPA", "RND",
      "TAW", "TWA", "PLA", "PLP", "PLX", "PLY", "PIA", "RTI"]
  | .z => ["LDA", "LDX", "LDY", "TAX", "TAY", "TXA", "TYA", "TSX", "ADC", "ADD", "SBC", "AND", "ORA", "EOR", "CMP", "CPX", "CPY",
      "BIT", "INC", "DEC", "INX", "INY", "DEX", "DEY", "NEG", "LAB", "ASL", "LSR", "ROL", "ROR", "ASR",
      "TAW", "TWA", "PLA", "PLP", "PLX", "PLY", "PIA", "RTI"]
  | .v => ["ADC", "ADD", "SBC", "BIT", "CLV", "CLW", "MPY", "MPA", "RND", "PLP", "RTI"]
  | .c => ["ADC", "ADD", "SBC", "CMP", "CPX", "CPY", "ASL", "ASR", "LSR", "ROL", "ROR", "SEC", "CLC", "PLP", "RTI"]
  | .d => ["SED", "CLD", "PLP", "RTI"]
  | .i => ["SEI", "CLI", "BRK", "PLP", "RTI"]
  | .b => ["BRK"]
  | .unused => []

/-- The mnemonics whose instructions can write memory at their operand (R140, R163, R193). -/
def storeMnemonics : List String :=
  ["STA", "STX", "STY", "STI", "EXC", "INC", "DEC", "ASL", "LSR", "ROL", "ROR", "RMB", "SMB", "RBA", "SBA"]

/-- The storing mnemonics that reach zero page only (R158, R163, R193). -/
def zeroPageStores : List String := ["STI", "EXC", "RMB", "SMB"]

/-- The mnemonics whose instructions push (R165). -/
def pushMnemonics : List String := ["PHA", "PHP", "PHX", "PHY", "PSH", "PHW", "PHI", "JSR", "JSB", "BRK"]

/-- The bit-test branches, whose taken cycles the bus sequence does not place (R308; 93 U17). -/
def bitBranches : List String := ["BBR", "BBS", "BAR", "BAS"]

/-- The instructions with the decimal cycle of note c (R114). -/
def decimalMnemonics : List String := ["ADC", "ADD", "SBC"]

/-- `t` holds the byte and the four flags of an addition or subtraction (R225 to R227). -/
def AluIs (res : AluResult) (t : State) : Prop :=
  t.a = res.r ∧ t.flag .n = res.n ∧ t.flag .v = res.v ∧ t.flag .z = res.z ∧ t.flag .c = res.c

/-- What ADC, ADD or SBC leaves: the binary result with D = 0, the decimal one with D = 1 and BCD bytes; with D = 1 and any byte that
is not BCD only V is known, and it is 0 (R224; log 23). -/
def ArithmeticOutcome (binary decimal : AluResult) (m : Byte) (s t : State) : Prop :=
  (s.flag .d = false → AluIs binary t) ∧
  (s.flag .d = true → validBcd s.a = true → validBcd m = true → AluIs decimal t) ∧
  (s.flag .d = true → t.flag .v = false) ∧
  Frame [.a] [.n, .v, .z, .c] [] s t

/-- The mnemonics that assign PC themselves; every other instruction goes on at the next one (R28). -/
def controlTransfers : List String :=
  ["BCC", "BCS", "BEQ", "BNE", "BMI", "BPL", "BVC", "BVS", "BRA", "BBR", "BBS", "BAR", "BAS", "JMP", "JSR", "JSB", "RTS",
   "NXT", "JPI", "TIP", "BRK", "RTI"]

/-- The 27 operation codes that Table A-3 marks "Not Used" (R109). -/
def notUsedCodes : List Byte :=
  [0x04, 0x14, 0x1C, 0x34, 0x3C, 0x43, 0x44, 0x53, 0x54, 0x5C, 0x63, 0x73, 0x82, 0x83, 0x92, 0x93, 0x9C, 0x9E, 0xA3, 0xB3,
   0xC3, 0xD3, 0xDC, 0xE3, 0xF3, 0xF4, 0xFC]

/-- The bytes of `i` stand in memory from PC on (R100). -/
def CodeAtPc (i : Instr) (s : State) : Prop :=
  ∀ k, k < (encode i).length → s.read (s.pc + BitVec.ofNat 16 k) = (encode i).getD k 0

end Sys2Proof.Machine
end

