-- ==== Sys2Proof/Certificates/Slice0/Obligations.lean ====
section
/-! DEFINITION. The statements for the provers, one definition each; OBLIGATIONS.json lists them with their basis in the spec. -/

section

open Sys2Proof Sys2Proof.Machine

/-- Decoding the encoding of any instruction gives that instruction and the bytes after it. Rests on 30_encoding.md section 1;
30_encoding.md section 2; 30_encoding.md section 3. -/
def Obligations.DecodeInvertsEncode : Prop :=
  ∀ (i : Instr) (rest : List Byte), decode (encode i ++ rest) = .ok (i, rest)

/-- The bytes the decoder takes are the encoding of its answer; well-formed code is exactly what decodes with nothing left.
Rests on 30_encoding.md section 1; 30_encoding.md section 3. -/
def Obligations.DecodedBytesAreTheEncoding : Prop :=
  (∀ (bytes rest : List Byte) (i : Instr), decode bytes = .ok (i, rest) → bytes = encode i ++ rest) ∧
  ∀ bytes : List Byte, wellFormedCode bytes = true ↔ ∃ i, decode bytes = .ok (i, [])

/-- Words written out from the opcode map decode to the instructions they stand for. Rests on 30_encoding.md section 1;
30_encoding.md section 3. -/
def Obligations.DecodeOfWordsFromTheOpcodeMap : Prop :=
  decodeTableWord 16 0x80A9 = some (.ldaImm 0x80) ∧ decodeTableWord 24 0x12FF9D = some (.staAbsX 0x12FF) ∧
  decodeTableWord 24 0x105AB2 = some (.sti 0x5A 0x10) ∧ decodeTableWord 16 0x40D4 = some (.exc 0x40) ∧
  decodeTableWord 16 0x2069 = some (.adcImm 0x20) ∧ decodeTableWord 24 0x1234CE = some (.decAbs 0x1234) ∧
  decodeTableWord 8 0x13 = some .lab ∧ decodeTableWord 8 0x0A = some .aslAcc ∧ decodeTableWord 16 0x4046 = some (.lsrZp 0x40) ∧
  decodeTableWord 8 0x12 = some .mpa ∧ decodeTableWord 8 0x52 = some .clw ∧
  decodeTableWord 16 0x1037 = some (.rmb3 0x10) ∧ decodeTableWord 32 0x40000FC2 = some (.rba 0x0F 0x4000) ∧
  decodeTableWord 24 0xFD10FF = some (.bbs7 0x10 0xFD) ∧ decodeTableWord 40 0x100C4000E2 = some (.bar 0x4000 0x0C 0x10) ∧
  decodeTableWord 16 0xFDD0 = some (.bne 0xFD) ∧ decodeTableWord 24 0x30FF6C = some (.jmpInd 0x30FF) ∧
  decodeTableWord 24 0x330020 = some (.jsr 0x3300) ∧ decodeTableWord 8 0x3B = some .jsb3 ∧
  decodeTableWord 8 0x22 = some .psh ∧ decodeTableWord 8 0x8B = some .nxt ∧ decodeTableWord 24 0x50000C = some (.jpi 0x5000) ∧
  decodeTableWord 8 0xB8 = some .clv ∧ decodeTableWord 8 0x00 = some .brk ∧ decodeTableWord 8 0x40 = some .rti ∧
  decodeTableWord 8 0x04 = none

/-- The decoder refuses by name exactly the 27 Not Used operation codes; 52 is CLW and 51 is EOR. Formalises R109. -/
def Obligations.NotUsedCodesAreTheTwentySeven : Prop :=
  (∀ (op : Byte) (rest : List Byte), decode (op :: rest) = .error (.notUsed op) ↔ op ∈ notUsedCodes) ∧
  notUsedCodes.length = 27 ∧ notUsedCodes.Nodup ∧
  decode [0x52] = .ok (.clw, []) ∧ ∀ n : Byte, decode [0x51, n] = .ok (.eorIndX n, [])

/-- When no event is accepted and the bytes at PC decode to i, a step is exec of i. Rests on 60_exceptions.md section 2 (the
step of the machine); 30_encoding.md section 1. -/
def Obligations.StepRunsTheDecodedInstruction : Prop :=
  ∀ (s : State) (bytes rest : List Byte) (i : Instr), s.acceptedEvent = none →
    (∀ k, k < bytes.length → s.read (s.pc + BitVec.ofNat 16 k) = bytes.getD k 0) →
    decode bytes = .ok (i, rest) → step s = exec i s

/-- A step stops exactly on a Not Used code at PC with no event accepted (the fault is the model's choice, log 9); else it goes
on. Rests on 60_exceptions.md section 1; 30_encoding.md section 3; 92_eei_decisions.md D1. -/
def Obligations.OnlyNotUsedCodesStopTheMachine : Prop :=
  (∀ s : State, s.acceptedEvent = none → s.read s.pc ∈ notUsedCodes →
      step s = .fault (.illegalOpcode s.pc (s.read s.pc))) ∧
  ∀ s : State, (s.acceptedEvent = none ∧ s.read s.pc ∈ notUsedCodes) ∨ ∃ t, step s = .next t

/-- At a boundary: reset, then NMI, then the highest maskable request if P.I = 0, then the instruction (log 17, 18, 19). Rests
on 60_exceptions.md section 2; 92_eei_decisions.md D17, D18, D22. -/
def Obligations.BoundaryOrder : Prop :=
  ∀ s : State,
    (s.resetRequest = true → step s = .next s.startSequence) ∧
    (s.resetRequest = false → s.nmiRequest = true → step s = .next ((s.setNmiRequest false).interruptEntry 0xFFFC)) ∧
    (s.resetRequest = false → s.nmiRequest = false → s.flag .i = false →
      ∀ src ∈ s.irqRequests, (∀ other ∈ s.irqRequests, src ≤ other) →
        step s = .next (s.interruptEntry (Config.irqVector src))) ∧
    (s.resetRequest = false → s.nmiRequest = false → (s.flag .i = true ∨ s.irqRequests = []) → s.acceptedEvent = none)

/-- Interrupt entry pushes PC and P (kept if RAM), sets I, loads PC from the vector and changes nothing else (I and B: log 16).
Rests on 60_exceptions.md section 3; 92_eei_decisions.md D5, D12, D19. -/
def Obligations.InterruptEntryEffect : Prop :=
  ∀ (s : State) (vec : Word), let t := s.interruptEntry vec
    Stored (stackAddr s.sp) (hiByte s.pc) s t ∧ Stored (stackAddr (s.sp - 1)) (loByte s.pc) s t ∧
    Stored (stackAddr (s.sp - 2)) s.p s t ∧
    t.sp = s.sp - 3 ∧ t.flag .i = true ∧ t.pc = joinBytes (t.read (vec + 1)) (t.read vec) ∧
    Frame [.s] [.i] [stackAddr s.sp, stackAddr (s.sp - 1), stackAddr (s.sp - 2)] s t ∧ (busInterrupt vec s).length = 7

/-- BRK pushes PC+1 and old P (kept if RAM), sets B and I, goes through 0xFFFC; other parameter values alike (defaults: log 10,
11, 12). Rests on 49_flags_system.md section 3; 92_eei_decisions.md D2, D3, D4. -/
def Obligations.BreakEntryEffect : Prop :=
  ∀ s : State,
    (∀ (vec offset : Word) (stackedB : Bool), let t := s.breakEntry vec offset stackedB
      Stored (stackAddr s.sp) (hiByte (s.pc + offset)) s t ∧ Stored (stackAddr (s.sp - 1)) (loByte (s.pc + offset)) s t ∧
      (∃ image : Byte, (∀ f, flagOf image f = ((stackedB && decide (f = .b)) || s.flag f)) ∧
        Stored (stackAddr (s.sp - 2)) image s t) ∧
      t.sp = s.sp - 3 ∧ t.flag .b = true ∧ t.flag .i = true ∧ t.pc = joinBytes (t.read (vec + 1)) (t.read vec) ∧
      Frame [.s] [.b, .i] [stackAddr s.sp, stackAddr (s.sp - 1), stackAddr (s.sp - 2)] s t) ∧
    (⟨.brk, [0x00], 7, busBrk s, ()⟩ : Line Unit).holds s ∧ exec .brk s = .next (s.breakEntry 0xFFFC 1 false)

/-- RTI restores six flags and PC from the stack, adds 3 to S, and changes nothing else. Formalises R419. -/
def Obligations.ReturnFromInterruptEffect : Prop :=
  ∀ s : State, (⟨.rti, [0x40], 6, busRti s, ()⟩ : Line Unit).jumps s
    (joinBytes (s.read (stackAddr (s.sp + 3))) (s.read (stackAddr (s.sp + 2)))) fun t =>
      (∀ f ∈ [Flag.n, .v, .d, .i, .z, .c], t.flag f = flagOf (s.read (stackAddr (s.sp + 1))) f) ∧
      t.sp = s.sp + 3 ∧ Frame [.s] [.n, .v, .d, .i, .z, .c] [] s t

/-- On a stack in RAM, RTI right after an interrupt entry restores everything; right after BRK it resumes at PC0 + 1 with only B
changed (log 11, 16). Rests on 60_exceptions.md section 3; 60_exceptions.md section 4; 49_flags_system.md section 3;
92_eei_decisions.md D3, D5, D12. -/
def Obligations.ReturnUndoesExceptionEntry : Prop :=
  ∀ (s : State) (vec : Word), (∀ addr ∈ [stackAddr s.sp, stackAddr (s.sp - 1), stackAddr (s.sp - 2)], s.isRom addr = false) →
    (Completes .rti (s.interruptEntry vec) fun u => u.pc = s.pc ∧ u.p = s.p ∧
      Frame [] [] [stackAddr s.sp, stackAddr (s.sp - 1), stackAddr (s.sp - 2)] s u) ∧
    (Completes .brk s fun t => Completes .rti t fun u => u.pc = s.pc + 1 ∧ u.flag .b = true ∧
      Frame [] [.b] [stackAddr s.sp, stackAddr (s.sp - 1), stackAddr (s.sp - 2)] s u)

/-- After reset D = 0 and PC is the word at 0xFFFE; I = 1 is the spec's default, empty memory, no pending request and no ROM the
model's choice (log 1, 2, 5, 6, 34). Rests on 70_reset_and_hazards.md section 1; 10_state.md section 7; 92_eei_decisions.md D7,
D20. -/
def Obligations.ResetState : Prop :=
  State.reset.flag .d = false ∧ State.reset.pc = joinBytes (State.reset.read 0xFFFF) (State.reset.read 0xFFFE) ∧
  State.reset.flag .i = true ∧ State.reset.mem = [] ∧ State.reset.resetRequest = false ∧ State.reset.nmiRequest = false ∧
  State.reset.irqRequests = [] ∧ State.reset.acceptedEvent = none ∧ ∀ addr, State.reset.isRom addr = false

/-- A requested reset loads PC from 0xFFFE, clears D, sets I (log 5), keeps memory; that it is served and other requests outlive
it is the model's choice (log 7). Rests on 70_reset_and_hazards.md section 1; 92_eei_decisions.md D7. -/
def Obligations.StartSequenceEffect : Prop :=
  ∀ s : State, s.resetRequest = true → ∃ t, step s = .next t ∧
    t.pc = joinBytes (s.read 0xFFFF) (s.read 0xFFFE) ∧ t.flag .d = false ∧ t.flag .i = true ∧ t.mem = s.mem ∧
    t.resetRequest = false ∧ t.nmiRequest = s.nmiRequest ∧ t.irqRequests = s.irqRequests ∧
    (busStart s).length = 7 ∧ applyWrites s (busStart s) = s

/-- Every step keeps the canonical form of memory. Rests on 20_memory.md section 1; 10_state.md section 5. -/
def Obligations.MemoryStaysCanonical : Prop :=
  ∀ s t : State, s.mem.wf = true → step s = .next t → t.mem.wf = true

/-- The memory of the reset state is in canonical form. Rests on 20_memory.md section 1; 10_state.md section 7. -/
def Obligations.ResetMemoryIsCanonical : Prop :=
  State.reset.mem.wf = true

/-- Between resets bit 5 never changes, B never clears, and B becomes 1 only by executing operation code 00 (log 14, 15). Rests
on 10_state.md section 3; 92_eei_decisions.md D6, D19. -/
def Obligations.BreakFlagAndBitFiveLife : Prop :=
  ∀ s t : State, s.resetRequest = false → step s = .next t →
    t.flag .unused = s.flag .unused ∧ (s.flag .b = true → t.flag .b = true) ∧
    (s.flag .b = false → t.flag .b = true → s.acceptedEvent = none ∧ s.read s.pc = 0x00)

/-- Each of A, X, Y, S, W, I changes only under the mnemonics whose Operation assigns it. Rests on 41_load_store_transfer.md
section 1; 10_state.md section 1; 48_threaded.md. -/
def Obligations.RegistersAreWrittenOnlyByTheirWriters : Prop :=
  ∀ (i : Instr) (s t : State) (r : Reg), exec i s = .next t → i.mnemonic ∉ regWriters r → t.reg r = s.reg r

/-- Each bit of P changes only under the mnemonics whose Flags part names it. Rests on 10_state.md section 3;
41_load_store_transfer.md section 1. -/
def Obligations.FlagsAreWrittenOnlyByTheirWriters : Prop :=
  ∀ (i : Instr) (s t : State) (f : Flag), exec i s = .next t → i.mnemonic ∉ flagWriters f → t.flag f = s.flag f

/-- Memory changes only under the storing and pushing mnemonics; pushes stay in page 01 (log 21), zero page stores in page 00
(Zero Page,X: log 22). Rests on 41_load_store_transfer.md section 1; 41_load_store_transfer.md section 3;
41_load_store_transfer.md section 5; 40_addressing_modes.md section 3; 20_memory.md section 4; 45_bit_ops.md section 1. -/
def Obligations.MemoryIsWrittenOnlyByStoresAndPushes : Prop :=
  ∀ (i : Instr) (s t : State), exec i s = .next t →
    (i.mnemonic ∉ storeMnemonics → i.mnemonic ∉ pushMnemonics → t.mem = s.mem) ∧
    (i.mnemonic ∈ pushMnemonics → ∀ addr, hiByte addr ≠ 0x01 → t.read addr = s.read addr) ∧
    (i.mnemonic ∈ zeroPageStores → ∀ addr, hiByte addr ≠ 0x00 → t.read addr = s.read addr)

/-- Every one of the 229 instructions completes in every state; all but the control transfers go on at the next instruction.
Rests on 41_load_store_transfer.md section 1; 10_state.md section 2; 60_exceptions.md section 1. -/
def Obligations.EveryInstructionCompletes : Prop :=
  ∀ (i : Instr) (s : State), ∃ t, exec i s = .next t ∧ KeepsPlatform s t ∧
    (i.mnemonic ∉ controlTransfers → t.pc = s.pc + BitVec.ofNat 16 (encode i).length)

/-- LDA, LDX, LDY in every mode load the operand, set N and Z from it and change nothing else. Formalises R180, R181, R182. -/
def Obligations.LoadsWriteTheRegisterAndNZ : Prop :=
  ∀ (n : Byte) (nn : Word) (s : State),
    (∀ l ∈ linesLda n nn s, l.does s fun t => t.a = l.operand ∧ FlagsNZ l.operand t ∧ Frame [.a] [.n, .z] [] s t) ∧
    (∀ l ∈ linesLdx n nn s, l.does s fun t => t.x = l.operand ∧ FlagsNZ l.operand t ∧ Frame [.x] [.n, .z] [] s t) ∧
    (∀ l ∈ linesLdy n nn s, l.does s fun t => t.y = l.operand ∧ FlagsNZ l.operand t ∧ Frame [.y] [.n, .z] [] s t)

/-- STA, STX, STY, STI in every mode write one byte at the effective address (kept if RAM) and change nothing else. Formalises
R183, R184, R185, R186. -/
def Obligations.StoresWriteOneByteAndNothingElse : Prop :=
  ∀ (n data : Byte) (nn : Word) (s : State),
    (∀ l ∈ linesSta n nn s, l.does s fun t => Stored l.operand s.a s t ∧ Frame [] [] [l.operand] s t) ∧
    (∀ l ∈ linesStx n nn s, l.does s fun t => Stored l.operand s.x s t ∧ Frame [] [] [l.operand] s t) ∧
    (∀ l ∈ linesSty n nn s, l.does s fun t => Stored l.operand s.y s t ∧ Frame [] [] [l.operand] s t) ∧
    (⟨.sti data n, [0xB2, data, n], 4, [s.busFetch 1, s.busFetch 2, .write (eaZp n) data], ()⟩ : Line Unit).does s fun t =>
      Stored (eaZp n) data s t ∧ Frame [] [] [eaZp n] s t

/-- TAX, TAY, TXA, TYA, TSX copy a register and set N and Z; TXS copies X to S and sets no flag. Formalises R187, R188, R189,
R190, R191, R192. -/
def Obligations.TransfersCopyOneRegister : Prop :=
  ∀ s : State,
    ((⟨.tax, [0xAA], 2, busImplied s, ()⟩ : Line Unit).does s fun t => t.x = s.a ∧ FlagsNZ s.a t ∧ Frame [.x] [.n, .z] [] s t) ∧
    ((⟨.tay, [0xA8], 2, busImplied s, ()⟩ : Line Unit).does s fun t => t.y = s.a ∧ FlagsNZ s.a t ∧ Frame [.y] [.n, .z] [] s t) ∧
    ((⟨.txa, [0x8A], 2, busImplied s, ()⟩ : Line Unit).does s fun t => t.a = s.x ∧ FlagsNZ s.x t ∧ Frame [.a] [.n, .z] [] s t) ∧
    ((⟨.tya, [0x98], 2, busImplied s, ()⟩ : Line Unit).does s fun t => t.a = s.y ∧ FlagsNZ s.y t ∧ Frame [.a] [.n, .z] [] s t) ∧
    ((⟨.tsx, [0xBA], 2, busImplied s, ()⟩ : Line Unit).does s fun t => t.x = s.sp ∧ FlagsNZ s.sp t ∧ Frame [.x] [.n, .z] [] s t) ∧
    ((⟨.txs, [0x9A], 2, busImplied s, ()⟩ : Line Unit).does s fun t => t.sp = s.x ∧ Frame [.s] [] [] s t)

/-- EXC swaps A with the zero page,X byte (in RAM), one read then one write, and sets no flag. Formalises R193. -/
def Obligations.ExchangeSwapsAAndTheByte : Prop :=
  ∀ (n : Byte) (s : State),
    (⟨.exc n, [0xD4, n], 5, [s.busFetch 1, .ignored (eaZp n), .read (eaZpX n s), .write (eaZpX n s) s.a], ()⟩ : Line Unit).does s
      fun t => t.a = s.read (eaZpX n s) ∧ Stored (eaZpX n s) s.a s t ∧ Frame [.a] [] [eaZpX n s] s t

/-- AddBinary gives the sum modulo 256, C above 255, V when the signed sum leaves -128..127, N and Z of the result. Formalises
R220. -/
def Obligations.AddBinaryIsTheSum : Prop :=
  ∀ (a m : Byte) (cin : Bool), let res := addBinary a m cin
    res.r.toNat = (a.toNat + m.toNat + cin.toNat) % 256 ∧
    res.c = decide (a.toNat + m.toNat + cin.toNat > 255) ∧
    res.v = decide (a.toInt + m.toInt + cin.toNat < -128 ∨ a.toInt + m.toInt + cin.toNat > 127) ∧
    res.v = (decide (a.getLsbD 7 = m.getLsbD 7) && decide (res.r.getLsbD 7 ≠ a.getLsbD 7)) ∧
    res.n = res.r.getLsbD 7 ∧ res.z = decide (res.r.toNat = 0)

/-- SubBinary gives the difference modulo 256, C as not-borrow, V when the signed difference leaves -128..127, N and Z.
Formalises R222. -/
def Obligations.SubBinaryIsTheDifference : Prop :=
  ∀ (a m : Byte) (cin : Bool), let res := subBinary a m cin
    let borrow : Int := 1 - (cin.toNat : Int)
    (res.r.toNat : Int) = ((a.toNat : Int) - m.toNat - borrow) % 256 ∧
    res.c = decide ((a.toNat : Int) - m.toNat - borrow ≥ 0) ∧
    res.v = decide (a.toInt - m.toInt - borrow < -128 ∨ a.toInt - m.toInt - borrow > 127) ∧
    res.v = (decide (a.getLsbD 7 ≠ m.getLsbD 7) && decide (res.r.getLsbD 7 ≠ a.getLsbD 7)) ∧
    res.n = res.r.getLsbD 7 ∧ res.z = decide (res.r.toNat = 0)

/-- AddDecimal on BCD bytes gives the BCD of the sum modulo 100, C above 99, V = 0, N and Z of the result. Formalises R221. -/
def Obligations.AddDecimalIsTheDecimalSum : Prop :=
  ∀ (a m : Byte) (cin : Bool), validBcd a = true → validBcd m = true → let res := addDecimal a m cin
    validBcd res.r = true ∧ bcdValue res.r = (bcdValue a + bcdValue m + cin.toNat) % 100 ∧
    res.c = decide (bcdValue a + bcdValue m + cin.toNat > 99) ∧
    res.v = false ∧ res.n = res.r.getLsbD 7 ∧ res.z = decide (res.r.toNat = 0)

/-- SubDecimal on BCD bytes gives the difference modulo 100 (a borrow gives the ten's complement: log 24), C as not-borrow, V =
0. Rests on 42_arithmetic_logic.md section 1. -/
def Obligations.SubDecimalIsTheDecimalDifference : Prop :=
  ∀ (a m : Byte) (cin : Bool), validBcd a = true → validBcd m = true → let res := subDecimal a m cin
    let diff : Int := (bcdValue a : Int) - bcdValue m - (1 - (cin.toNat : Int))
    validBcd res.r = true ∧ (bcdValue res.r : Int) = diff % 100 ∧ res.c = decide (diff ≥ 0) ∧
    res.v = false ∧ res.n = res.r.getLsbD 7 ∧ res.z = decide (res.r.toNat = 0)

/-- ADC, ADD, SBC in every mode write A, N, V, Z, C by the binary or decimal rule; bytes not BCD leave only V = 0 known (log
23). Rests on 42_arithmetic_logic.md section 2; 92_eei_decisions.md D13. -/
def Obligations.AddAndSubtractForms : Prop :=
  ∀ (n : Byte) (nn : Word) (s : State),
    (∀ l ∈ linesAdc n nn s, l.does s fun t => ArithmeticOutcome (addBinary s.a l.operand (s.flag .c))
      (addDecimal s.a l.operand (s.flag .c)) l.operand s t) ∧
    (∀ l ∈ linesAdd n nn s, l.does s fun t => ArithmeticOutcome (addBinary s.a l.operand false)
      (addDecimal s.a l.operand false) l.operand s t) ∧
    (∀ l ∈ linesSbc n nn s, l.does s fun t => ArithmeticOutcome (subBinary s.a l.operand (s.flag .c))
      (subDecimal s.a l.operand (s.flag .c)) l.operand s t)

/-- AND, ORA, EOR in every mode combine A with the operand bit by bit, set N and Z and change nothing else. Formalises R228,
R229, R230. -/
def Obligations.LogicIsBitwise : Prop :=
  ∀ (n : Byte) (nn : Word) (s : State),
    (∀ l ∈ linesAnd n nn s, l.does s fun t =>
      (∀ k, k < 8 → t.a.getLsbD k = (s.a.getLsbD k && l.operand.getLsbD k)) ∧ FlagsNZ t.a t ∧ Frame [.a] [.n, .z] [] s t) ∧
    (∀ l ∈ linesOra n nn s, l.does s fun t =>
      (∀ k, k < 8 → t.a.getLsbD k = (s.a.getLsbD k || l.operand.getLsbD k)) ∧ FlagsNZ t.a t ∧ Frame [.a] [.n, .z] [] s t) ∧
    (∀ l ∈ linesEor n nn s, l.does s fun t =>
      (∀ k, k < 8 → t.a.getLsbD k = (s.a.getLsbD k ^^ l.operand.getLsbD k)) ∧ FlagsNZ t.a t ∧ Frame [.a] [.n, .z] [] s t)

/-- CMP, CPX, CPY set N, Z, C from the unsigned comparison, BIT sets N, V, Z from the byte and its AND with A; nothing else
changes. Formalises R231, R232, R233, R234. -/
def Obligations.ComparesAndBitTestSetFlagsOnly : Prop :=
  ∀ (n : Byte) (nn : Word) (s : State),
    (∀ l ∈ linesCmp n nn s, l.does s fun t => t.flag .n = (s.a - l.operand).getLsbD 7 ∧ t.flag .z = decide (s.a = l.operand) ∧
      t.flag .c = decide (l.operand.toNat ≤ s.a.toNat) ∧ Frame [] [.n, .z, .c] [] s t) ∧
    (∀ l ∈ linesCpx n nn s, l.does s fun t => t.flag .n = (s.x - l.operand).getLsbD 7 ∧ t.flag .z = decide (s.x = l.operand) ∧
      t.flag .c = decide (l.operand.toNat ≤ s.x.toNat) ∧ Frame [] [.n, .z, .c] [] s t) ∧
    (∀ l ∈ linesCpy n nn s, l.does s fun t => t.flag .n = (s.y - l.operand).getLsbD 7 ∧ t.flag .z = decide (s.y = l.operand) ∧
      t.flag .c = decide (l.operand.toNat ≤ s.y.toNat) ∧ Frame [] [.n, .z, .c] [] s t) ∧
    (∀ l ∈ linesBit n nn s, l.does s fun t => t.flag .n = l.operand.getLsbD 7 ∧ t.flag .v = l.operand.getLsbD 6 ∧
      t.flag .z = decide (∀ k : Fin 8, (s.a.getLsbD k && l.operand.getLsbD k) = false) ∧ Frame [] [.n, .v, .z] [] s t)

/-- INC, DEC, INX, INY, DEX, DEY add or subtract 1 modulo 256 in memory (kept if RAM) or a register, set N and Z and change
nothing else. Formalises R235, R236, R237, R238, R239, R240. -/
def Obligations.IncrementsAndDecrements : Prop :=
  ∀ (n : Byte) (nn : Word) (s : State),
    (∀ l ∈ linesInc n nn s, l.does s fun t => (∃ r : Byte, r.toNat = ((s.read l.operand).toNat + 1) % 256 ∧
      Stored l.operand r s t ∧ FlagsNZ r t) ∧ Frame [] [.n, .z] [l.operand] s t) ∧
    (∀ l ∈ linesDec n nn s, l.does s fun t => (∃ r : Byte, r.toNat = ((s.read l.operand).toNat + 255) % 256 ∧
      Stored l.operand r s t ∧ FlagsNZ r t) ∧ Frame [] [.n, .z] [l.operand] s t) ∧
    ((⟨.inx, [0xE8], 2, busImplied s, ()⟩ : Line Unit).does s fun t =>
      t.x.toNat = (s.x.toNat + 1) % 256 ∧ FlagsNZ t.x t ∧ Frame [.x] [.n, .z] [] s t) ∧
    ((⟨.iny, [0xC8], 2, busImplied s, ()⟩ : Line Unit).does s fun t =>
      t.y.toNat = (s.y.toNat + 1) % 256 ∧ FlagsNZ t.y t ∧ Frame [.y] [.n, .z] [] s t) ∧
    ((⟨.dex, [0xCA], 2, busImplied s, ()⟩ : Line Unit).does s fun t =>
      t.x.toNat = (s.x.toNat + 255) % 256 ∧ FlagsNZ t.x t ∧ Frame [.x] [.n, .z] [] s t) ∧
    ((⟨.dey, [0x88], 2, busImplied s, ()⟩ : Line Unit).does s fun t =>
      t.y.toNat = (s.y.toNat + 255) % 256 ∧ FlagsNZ t.y t ∧ Frame [.y] [.n, .z] [] s t)

/-- NEG is the two's complement of A, LAB its absolute value, 0x80 giving 0x80 in both; only A, N, Z change. Formalises R241,
R242. -/
def Obligations.NegateAndAbsoluteValue : Prop :=
  ∀ s : State,
    ((⟨.neg, [0x1A], 2, busImplied s, ()⟩ : Line Unit).does s fun t =>
      t.a.toNat = (256 - s.a.toNat) % 256 ∧ FlagsNZ t.a t ∧ Frame [.a] [.n, .z] [] s t) ∧
    ((⟨.lab, [0x13], 3, busLab s, ()⟩ : Line Unit).does s fun t =>
      t.a.toNat = s.a.toInt.natAbs ∧ (t.flag .n = true ↔ s.a = 0x80) ∧ FlagsNZ t.a t ∧ Frame [.a] [.n, .z] [] s t)

/-- ASL and ROL on A and on memory (kept if RAM): twice the input modulo 256, ROL adding the old C; C the old bit 7; N and Z of
the result. Formalises R260, R262. -/
def Obligations.LeftShiftsAndRotates : Prop :=
  ∀ (n : Byte) (nn : Word) (s : State),
    (∀ l ∈ linesAsl n nn s, l.does s fun t => (∃ r : Byte, r.toNat = 2 * (s.read l.operand).toNat % 256 ∧
      Stored l.operand r s t ∧ t.flag .c = (s.read l.operand).getLsbD 7 ∧
      FlagsNZ r t) ∧ Frame [] [.n, .z, .c] [l.operand] s t) ∧
    ((⟨.aslAcc, [0x0A], 2, busImplied s, ()⟩ : Line Unit).does s fun t => t.a.toNat = 2 * s.a.toNat % 256 ∧
      t.flag .c = s.a.getLsbD 7 ∧ FlagsNZ t.a t ∧ Frame [.a] [.n, .z, .c] [] s t) ∧
    (∀ l ∈ linesRol n nn s, l.does s fun t => (∃ r : Byte, r.toNat = 2 * (s.read l.operand).toNat % 256 + (s.flag .c).toNat ∧
      Stored l.operand r s t ∧ t.flag .c = (s.read l.operand).getLsbD 7 ∧
      FlagsNZ r t) ∧ Frame [] [.n, .z, .c] [l.operand] s t) ∧
    ((⟨.rolAcc, [0x2A], 2, busImplied s, ()⟩ : Line Unit).does s fun t => t.a.toNat = 2 * s.a.toNat % 256 + (s.flag .c).toNat ∧
      t.flag .c = s.a.getLsbD 7 ∧ FlagsNZ t.a t ∧ Frame [.a] [.n, .z, .c] [] s t)

/-- LSR, ROR (A and memory, kept if RAM) and ASR (A): half the input, ROR with the old C as bit 7, ASR signed; C the old bit 0;
LSR has N = 0. Formalises R261, R263, R264. -/
def Obligations.RightShiftsAndRotates : Prop :=
  ∀ (n : Byte) (nn : Word) (s : State),
    (∀ l ∈ linesLsr n nn s, l.does s fun t => (∃ r : Byte, r.toNat = (s.read l.operand).toNat / 2 ∧
      Stored l.operand r s t ∧ t.flag .c = (s.read l.operand).getLsbD 0 ∧
      t.flag .n = false ∧ t.flag .z = decide ((r).toNat = 0)) ∧ Frame [] [.n, .z, .c] [l.operand] s t) ∧
    ((⟨.lsrAcc, [0x4A], 2, busImplied s, ()⟩ : Line Unit).does s fun t => t.a.toNat = s.a.toNat / 2 ∧
      t.flag .c = s.a.getLsbD 0 ∧ t.flag .n = false ∧ t.flag .z = decide ((t.a).toNat = 0) ∧ Frame [.a] [.n, .z, .c] [] s t) ∧
    (∀ l ∈ linesRor n nn s, l.does s fun t => (∃ r : Byte, r.toNat = (s.read l.operand).toNat / 2 + 128 * (s.flag .c).toNat ∧
      Stored l.operand r s t ∧ t.flag .c = (s.read l.operand).getLsbD 0 ∧
      FlagsNZ r t) ∧ Frame [] [.n, .z, .c] [l.operand] s t) ∧
    ((⟨.rorAcc, [0x6A], 2, busImplied s, ()⟩ : Line Unit).does s fun t => t.a.toNat = s.a.toNat / 2 + 128 * (s.flag .c).toNat ∧
      t.flag .c = s.a.getLsbD 0 ∧ FlagsNZ t.a t ∧ Frame [.a] [.n, .z, .c] [] s t) ∧
    ((⟨.asr, [0x3A], 2, busImplied s, ()⟩ : Line Unit).does s fun t => t.a.toInt = s.a.toInt / 2 ∧
      t.flag .c = s.a.getLsbD 0 ∧ t.flag .n = s.a.getLsbD 7 ∧ FlagsNZ t.a t ∧ Frame [.a] [.n, .z, .c] [] s t)

/-- MPY leaves the signed 16-bit product in A and Y, N its sign, V = 0, Z and C and W unchanged. Formalises R280. -/
def Obligations.MultiplyIsTheSignedProduct : Prop :=
  ∀ s : State, (⟨.mpy, [0x02], 6, busMultiply s, ()⟩ : Line Unit).does s fun t =>
    (joinBytes t.a t.y).toInt = s.a.toInt * s.y.toInt ∧ t.flag .n = t.a.getLsbD 7 ∧ t.flag .v = false ∧
    Frame [.a, .y] [.n, .v] [] s t

/-- MPA adds the signed product to W with saturation, V says whether it saturated, N is bit 15; Y is left unspecified (log 25).
Rests on 44_multiply_w.md; 92_eei_decisions.md D14. -/
def Obligations.MultiplyAccumulateSaturates : Prop :=
  ∀ s : State, (⟨.mpa, [0x12], 6, busMultiply s, ()⟩ : Line Unit).does s fun t =>
    t.w.toInt = max (-32768) (min 32767 (s.w.toInt + s.a.toInt * s.y.toInt)) ∧
    t.flag .v = decide (s.w.toInt + s.a.toInt * s.y.toInt > 32767 ∨ s.w.toInt + s.a.toInt * s.y.toInt < -32768) ∧
    t.flag .n = t.w.getLsbD 15 ∧ Frame [.w, .y] [.n, .v] [] s t

/-- RND rounds W to A adding half, clamped at 0x7F with V = 1; only then is Y unspecified (log 25); W is unchanged. Rests on
44_multiply_w.md; 92_eei_decisions.md D14. -/
def Obligations.RoundAddsHalf : Prop :=
  ∀ s : State, (⟨.rnd, [0x42], 2, busImplied s, ()⟩ : Line Unit).does s fun t =>
    t.a.toInt = min 127 ((s.w.toInt + 128) / 256) ∧ t.flag .v = decide ((s.w.toInt + 128) / 256 > 127) ∧
    t.flag .n = t.a.getLsbD 7 ∧ ((s.w.toInt + 128) / 256 ≤ 127 → t.y = s.y) ∧ Frame [.a, .y] [.n, .v] [] s t

/-- CLW, TAW, TWA, PHW, PLW clear, load, read, push (kept if RAM) and pull W with the flags their rules give. Formalises R283,
R284, R285, R286, R287. -/
def Obligations.MovesOfW : Prop :=
  ∀ s : State,
    ((⟨.clw, [0x52], 2, busImplied s, ()⟩ : Line Unit).does s fun t => t.w = 0 ∧ t.flag .v = false ∧ Frame [.w] [.v] [] s t) ∧
    ((⟨.taw, [0x62], 2, busImplied s, ()⟩ : Line Unit).does s fun t =>
      hiByte t.w = s.a ∧ loByte t.w = 0 ∧ FlagsNZ s.a t ∧ Frame [.w] [.n, .z] [] s t) ∧
    ((⟨.twa, [0x72], 2, busImplied s, ()⟩ : Line Unit).does s fun t =>
      t.a = hiByte s.w ∧ FlagsNZ (hiByte s.w) t ∧ Frame [.a] [.n, .z] [] s t) ∧
    ((⟨.phw, [0x23], 4, busPushWord s.w s, ()⟩ : Line Unit).does s fun t =>
      Stored (stackAddr s.sp) (hiByte s.w) s t ∧ Stored (stackAddr (s.sp - 1)) (loByte s.w) s t ∧ t.sp = s.sp - 2 ∧
      Frame [.s] [] [stackAddr s.sp, stackAddr (s.sp - 1)] s t) ∧
    ((⟨.plw, [0x33], 5, busPlw s, ()⟩ : Line Unit).does s fun t =>
      loByte t.w = s.read (stackAddr (s.sp + 1)) ∧ hiByte t.w = s.read (stackAddr (s.sp + 2)) ∧ t.sp = s.sp + 2 ∧
      Frame [.w, .s] [] [] s t)

/-- RMB b and SMB b clear or set bit b of a zero page byte (in RAM), two reads and one write, and change nothing else.
Formalises R300, R301. -/
def Obligations.MemoryBitsAreSetAndReset : Prop :=
  ∀ (k : Fin 8) (n : Byte) (s : State),
    ((⟨rmbInstr k n, [bitOpcode 0x07 k, n], 5, busModifyZp n (s.read (eaZp n) &&& ~~~(bitMask k)) s, ()⟩ : Line Unit).does s fun t =>
      (s.isRom (eaZp n) = false →
        ∀ j : Fin 8, (t.read (eaZp n)).getLsbD j = (decide (j ≠ k) && (s.read (eaZp n)).getLsbD j)) ∧ Frame [] [] [eaZp n] s t) ∧
    ((⟨smbInstr k n, [bitOpcode 0x87 k, n], 5, busModifyZp n (s.read (eaZp n) ||| bitMask k) s, ()⟩ : Line Unit).does s fun t =>
      (s.isRom (eaZp n) = false →
        ∀ j : Fin 8, (t.read (eaZp n)).getLsbD j = (decide (j = k) || (s.read (eaZp n)).getLsbD j)) ∧ Frame [] [] [eaZp n] s t)

/-- RBA and SBA clear or set the masked bits of a byte in RAM; A is left unspecified (log 26), nothing else changes. Rests on
45_bit_ops.md section 1; 92_eei_decisions.md D15. -/
def Obligations.MaskedBitsAreSetAndReset : Prop :=
  ∀ (mask : Byte) (nn : Word) (s : State),
    ((⟨.rba mask nn, [0xC2, mask, loByte nn, hiByte nn], 7, busMask nn (s.read nn &&& ~~~mask) s, ()⟩ : Line Unit).does s fun t =>
      (s.isRom nn = false →
        ∀ j : Fin 8, (t.read nn).getLsbD j = (!mask.getLsbD j && (s.read nn).getLsbD j)) ∧ Frame [.a] [] [nn] s t) ∧
    ((⟨.sba mask nn, [0xD2, mask, loByte nn, hiByte nn], 7, busMask nn (s.read nn ||| mask) s, ()⟩ : Line Unit).does s fun t =>
      (s.isRom nn = false →
        ∀ j : Fin 8, (t.read nn).getLsbD j = (mask.getLsbD j || (s.read nn).getLsbD j)) ∧ Frame [.a] [] [nn] s t)

/-- BBR b and BBS b branch from the next instruction (log 27) when bit b of a zero page byte is 0 or 1, and change nothing else.
Rests on 45_bit_ops.md section 2; 92_eei_decisions.md D21. -/
def Obligations.BitBranchesTestZeroPageBits : Prop :=
  ∀ (k : Fin 8) (n r : Byte) (s : State),
    ((⟨bbrInstr k n r, [bitOpcode 0x0F k, n, r], 5 + branchCycles (!(s.read (eaZp n)).getLsbD k) 3 r s, busBitBranch n s, ()⟩ :
      Line Unit).jumps s (if (s.read (eaZp n)).getLsbD k = false then s.pc + 3 + r.signExtend 16 else s.pc + 3)
        fun t => Frame [] [] [] s t) ∧
    ((⟨bbsInstr k n r, [bitOpcode 0x8F k, n, r], 5 + branchCycles ((s.read (eaZp n)).getLsbD k) 3 r s, busBitBranch n s, ()⟩ :
      Line Unit).jumps s (if (s.read (eaZp n)).getLsbD k = true then s.pc + 3 + r.signExtend 16 else s.pc + 3)
        fun t => Frame [] [] [] s t)

/-- BAR branches when any masked bit is 0 and BAS when any is 1, from the next instruction (log 27), and change nothing else.
Rests on 45_bit_ops.md section 2; 92_eei_decisions.md D21. -/
def Obligations.MaskBranchesTestAnyMaskedBit : Prop :=
  ∀ (nn : Word) (mask r : Byte) (s : State),
    ((⟨.bar nn mask r, [0xE2, loByte nn, hiByte nn, mask, r], 7 + branchCycles (takesBar nn mask s) 5 r s, busMaskBranch nn s, ()⟩ :
      Line Unit).jumps s (if ∃ j : Fin 8, mask.getLsbD j = true ∧ (s.read nn).getLsbD j = false
          then s.pc + 5 + r.signExtend 16 else s.pc + 5) fun t => Frame [] [] [] s t) ∧
    ((⟨.bas nn mask r, [0xF2, loByte nn, hiByte nn, mask, r], 7 + branchCycles (takesBas nn mask s) 5 r s, busMaskBranch nn s, ()⟩ :
      Line Unit).jumps s (if ∃ j : Fin 8, mask.getLsbD j = true ∧ (s.read nn).getLsbD j = true
          then s.pc + 5 + r.signExtend 16 else s.pc + 5) fun t => Frame [] [] [] s t)

/-- The eight conditional branches and BRA go to the next instruction plus the signed offset when taken (wrap: log 20). Rests on
46_branch_jump.md section 1; 92_eei_decisions.md D11. -/
def Obligations.RelativeBranches : Prop :=
  ∀ (r : Byte) (s : State),
    (∀ l ∈ conditionalBranches r s, l.jumps s (if l.operand = true then s.pc + 2 + r.signExtend 16 else s.pc + 2)
      fun t => Frame [] [] [] s t) ∧
    (⟨.bra r, [0x80, r], 3 + pageCycle (s.pc + 2) r, busBranch true r s, ()⟩ : Line Unit).jumps s (s.pc + 2 + r.signExtend 16)
      fun t => Frame [] [] [] s t

/-- JMP loads PC with the operand, the word the operand points at, or the word at operand plus X, and changes nothing else (log
20). Rests on 46_branch_jump.md section 2; 40_addressing_modes.md section 6; 92_eei_decisions.md D11. -/
def Obligations.JumpsLoadThePc : Prop :=
  ∀ (nn : Word) (s : State), let p := nn + s.x.setWidth 16
    ((⟨.jmpAbs nn, [0x4C, loByte nn, hiByte nn], 3, busJump s, ()⟩ : Line Unit).jumps s nn fun t => Frame [] [] [] s t) ∧
    ((⟨.jmpInd nn, [0x6C, loByte nn, hiByte nn], 5, busJumpInd nn s, ()⟩ : Line Unit).jumps s
      (joinBytes (s.read (nn + 1)) (s.read nn)) fun t => Frame [] [] [] s t) ∧
    ((⟨.jmpIndX nn, [0x7C, loByte nn, hiByte nn], 6, busJumpIndX nn s, ()⟩ : Line Unit).jumps s
      (joinBytes (s.read (p + 1)) (s.read p)) fun t => Frame [] [] [] s t)

/-- JSR and JSB push (kept if RAM) the address of the next instruction, high byte first; RTS pulls PC as it is. Formalises R333,
R334, R335. -/
def Obligations.CallsAndReturn : Prop :=
  ∀ (k : Fin 8) (nn : Word) (s : State), let v : Word := 0xFFE0 + BitVec.ofNat 16 (2 * k)
    ((⟨.jsr nn, [0x20, loByte nn, hiByte nn], 5, busJsr s, ()⟩ : Line Unit).jumps s nn fun t =>
      Stored (stackAddr s.sp) (hiByte (s.pc + 3)) s t ∧ Stored (stackAddr (s.sp - 1)) (loByte (s.pc + 3)) s t ∧ t.sp = s.sp - 2 ∧
      Frame [.s] [] [stackAddr s.sp, stackAddr (s.sp - 1)] s t) ∧
    ((⟨jsbInstr k, [bitOpcode 0x0B k], 6, busJsb k s, ()⟩ : Line Unit).jumps s (joinBytes (s.read (v + 1)) (s.read v)) fun t =>
      Stored (stackAddr s.sp) (hiByte (s.pc + 1)) s t ∧ Stored (stackAddr (s.sp - 1)) (loByte (s.pc + 1)) s t ∧ t.sp = s.sp - 2 ∧
      Frame [.s] [] [stackAddr s.sp, stackAddr (s.sp - 1)] s t) ∧
    ((⟨.rts, [0x60], 5, busRts s, ()⟩ : Line Unit).jumps s
      (joinBytes (s.read (stackAddr (s.sp + 2))) (s.read (stackAddr (s.sp + 1)))) fun t => t.sp = s.sp + 2 ∧ Frame [.s] [] [] s t)

/-- RTS right after JSR or JSB, on a stack in RAM, comes back to the next instruction with every register and flag as before.
Rests on 46_branch_jump.md section 3; 20_memory.md section 4. -/
def Obligations.ReturnUndoesCall : Prop :=
  ∀ (k : Fin 8) (nn : Word) (s : State), (∀ addr ∈ [stackAddr s.sp, stackAddr (s.sp - 1)], s.isRom addr = false) →
    (Completes (.jsr nn) s fun t => Completes .rts t fun u =>
      u.pc = s.pc + 3 ∧ Frame [] [] [stackAddr s.sp, stackAddr (s.sp - 1)] s u) ∧
    (Completes (jsbInstr k) s fun t => Completes .rts t fun u =>
      u.pc = s.pc + 1 ∧ Frame [] [] [stackAddr s.sp, stackAddr (s.sp - 1)] s u)

/-- PHA, PHP, PHX, PHY and PSH store registers at {01,S} downward (kept if RAM), decrement S and write no flag. Formalises R361,
R362, R363, R364, R369. -/
def Obligations.PushesStoreAndDecrementS : Prop :=
  ∀ s : State,
    ((⟨.pha, [0x48], 3, busPushByte s.a s, ()⟩ : Line Unit).does s fun t =>
      Stored (stackAddr s.sp) s.a s t ∧ t.sp = s.sp - 1 ∧ Frame [.s] [] [stackAddr s.sp] s t) ∧
    ((⟨.php, [0x08], 3, busPushByte s.p s, ()⟩ : Line Unit).does s fun t =>
      Stored (stackAddr s.sp) s.p s t ∧ t.sp = s.sp - 1 ∧ Frame [.s] [] [stackAddr s.sp] s t) ∧
    ((⟨.phx, [0xDA], 3, busPushByte s.x s, ()⟩ : Line Unit).does s fun t =>
      Stored (stackAddr s.sp) s.x s t ∧ t.sp = s.sp - 1 ∧ Frame [.s] [] [stackAddr s.sp] s t) ∧
    ((⟨.phy, [0x5A], 3, busPushByte s.y s, ()⟩ : Line Unit).does s fun t =>
      Stored (stackAddr s.sp) s.y s t ∧ t.sp = s.sp - 1 ∧ Frame [.s] [] [stackAddr s.sp] s t) ∧
    ((⟨.psh, [0x22], 5, busPsh s, ()⟩ : Line Unit).does s fun t =>
      Stored (stackAddr s.sp) s.a s t ∧ Stored (stackAddr (s.sp - 1)) s.x s t ∧
      Stored (stackAddr (s.sp - 2)) s.y s t ∧ t.sp = s.sp - 3 ∧
      Frame [.s] [] [stackAddr s.sp, stackAddr (s.sp - 1), stackAddr (s.sp - 2)] s t)

/-- PLA, PLX, PLY load from {01,S+1} and set N and Z, PLP loads six bits of P, PUL loads Y, X, A and sets no flag. Formalises
R365, R366, R367, R368, R370. -/
def Obligations.PullsIncrementSAndLoad : Prop :=
  ∀ s : State, let b := s.read (stackAddr (s.sp + 1))
    ((⟨.pla, [0x68], 4, busPullByte s, ()⟩ : Line Unit).does s fun t =>
      t.a = b ∧ FlagsNZ b t ∧ t.sp = s.sp + 1 ∧ Frame [.a, .s] [.n, .z] [] s t) ∧
    ((⟨.plx, [0xFA], 4, busPullByte s, ()⟩ : Line Unit).does s fun t =>
      t.x = b ∧ FlagsNZ b t ∧ t.sp = s.sp + 1 ∧ Frame [.x, .s] [.n, .z] [] s t) ∧
    ((⟨.ply, [0x7A], 4, busPullByte s, ()⟩ : Line Unit).does s fun t =>
      t.y = b ∧ FlagsNZ b t ∧ t.sp = s.sp + 1 ∧ Frame [.y, .s] [.n, .z] [] s t) ∧
    ((⟨.plp, [0x28], 4, busPullByte s, ()⟩ : Line Unit).does s fun t =>
      (∀ f ∈ [Flag.n, .v, .d, .i, .z, .c], t.flag f = flagOf b f) ∧ t.sp = s.sp + 1 ∧
      Frame [.s] [.n, .v, .d, .i, .z, .c] [] s t) ∧
    ((⟨.pul, [0x32], 6, busPul s, ()⟩ : Line Unit).does s fun t =>
      t.y = b ∧ t.x = s.read (stackAddr (s.sp + 2)) ∧ t.a = s.read (stackAddr (s.sp + 3)) ∧ t.sp = s.sp + 3 ∧
      Frame [.a, .x, .y, .s] [] [] s t)

/-- On a stack in RAM, PLP after PHP, PUL after PSH, PLW after PHW and PLI after PHI give back the registers, S and the flags.
Rests on 47_stack.md section 1; 44_multiply_w.md; 48_threaded.md; 20_memory.md section 4. -/
def Obligations.PullsUndoPushes : Prop :=
  ∀ s : State,
    (s.isRom (stackAddr s.sp) = false →
      Completes .php s fun t => Completes .plp t fun u => u.p = s.p ∧ Frame [] [] [stackAddr s.sp] s u) ∧
    ((∀ addr ∈ [stackAddr s.sp, stackAddr (s.sp - 1), stackAddr (s.sp - 2)], s.isRom addr = false) →
      Completes .psh s fun t => Completes .pul t fun u =>
      u.p = s.p ∧ Frame [] [] [stackAddr s.sp, stackAddr (s.sp - 1), stackAddr (s.sp - 2)] s u) ∧
    ((∀ addr ∈ [stackAddr s.sp, stackAddr (s.sp - 1)], s.isRom addr = false) →
      Completes .phw s fun t => Completes .plw t fun u =>
      u.p = s.p ∧ Frame [] [] [stackAddr s.sp, stackAddr (s.sp - 1)] s u) ∧
    ((∀ addr ∈ [stackAddr s.sp, stackAddr (s.sp - 1)], s.isRom addr = false) →
      Completes .phi s fun t => Completes .pli t fun u =>
      u.p = s.p ∧ Frame [] [] [stackAddr s.sp, stackAddr (s.sp - 1)] s u)

/-- NXT, LII, LAI, LAN, INI read through I and step it, and write no flag. Formalises R390, R391, R392, R393, R394. -/
def Obligations.ThreadedCodeThroughI : Prop :=
  ∀ s : State, let target := joinBytes (s.read (s.ireg + 1)) (s.read s.ireg)
    ((⟨.nxt, [0x8B], 4, busNxt s, ()⟩ : Line Unit).jumps s target fun t => t.ireg = s.ireg + 2 ∧ Frame [.i] [] [] s t) ∧
    ((⟨.lii, [0x9B], 5, [s.busIgnore 1, .read s.ireg, .read (s.ireg + 1), .ignored target], ()⟩ : Line Unit).does s fun t =>
      t.ireg = target ∧ Frame [.i] [] [] s t) ∧
    ((⟨.lai, [0xEB], 3, busLoadI s, ()⟩ : Line Unit).does s fun t => t.a = s.read s.ireg ∧ Frame [.a] [] [] s t) ∧
    ((⟨.lan, [0xAB], 3, busLoadI s, ()⟩ : Line Unit).does s fun t =>
      t.a = s.read s.ireg ∧ t.ireg.toNat = (s.ireg.toNat + 1) % 65536 ∧ Frame [.a, .i] [] [] s t) ∧
    ((⟨.ini, [0xBB], 3, [s.busIgnore 1, .ignored s.ireg], ()⟩ : Line Unit).does s fun t =>
      t.ireg.toNat = (s.ireg.toNat + 1) % 65536 ∧ Frame [.i] [] [] s t)

/-- PHI pushes I (kept if RAM), PLI pulls it, PIA pulls it, loads A and X through it, increments it and sets N and Z. Formalises
R395, R396, R399. -/
def Obligations.StackingOfI : Prop :=
  ∀ s : State, let pulled := joinBytes (s.read (stackAddr (s.sp + 2))) (s.read (stackAddr (s.sp + 1)))
    ((⟨.phi, [0xCB], 4, busPushWord s.ireg s, ()⟩ : Line Unit).does s fun t =>
      Stored (stackAddr s.sp) (hiByte s.ireg) s t ∧ Stored (stackAddr (s.sp - 1)) (loByte s.ireg) s t ∧ t.sp = s.sp - 2 ∧
      Frame [.s] [] [stackAddr s.sp, stackAddr (s.sp - 1)] s t) ∧
    ((⟨.pli, [0xDB], 6, busPli s, ()⟩ : Line Unit).does s fun t => t.ireg = pulled ∧ t.sp = s.sp + 2 ∧ Frame [.i, .s] [] [] s t) ∧
    ((⟨.pia, [0xFB], 6, busPia s, ()⟩ : Line Unit).does s fun t =>
      t.ireg = pulled + 1 ∧ t.a = s.read pulled ∧ t.x = s.read pulled ∧ t.sp = s.sp + 2 ∧ FlagsNZ (s.read pulled) t ∧
      Frame [.a, .x, .i, .s] [.n, .z] [] s t)

/-- JPI jumps to the word its operand points at and leaves PC+3 in I; TIP loads PC with I and so returns. Formalises R397, R398. -/
def Obligations.JumpThroughIAndBack : Prop :=
  ∀ (nn : Word) (s : State),
    ((⟨.jpi nn, [0x0C, loByte nn, hiByte nn], 5, busJumpInd nn s, ()⟩ : Line Unit).jumps s
      (joinBytes (s.read (nn + 1)) (s.read nn)) fun t => t.ireg = s.pc + 3 ∧ Frame [.i] [] [] s t) ∧
    ((⟨.tip, [0x03], 2, busImplied s, ()⟩ : Line Unit).jumps s s.ireg fun t => Frame [] [] [] s t) ∧
    (Completes (.jpi nn) s fun t => Completes .tip t fun u => u.pc = s.pc + 3 ∧ Frame [.i] [] [] s u)

/-- CLC SEC CLD SED CLI SEI CLV write one flag and NOP nothing; each goes on at the next instruction. Formalises R410, R411,
R412, R413, R414, R415, R416, R417. -/
def Obligations.FlagInstructionsAndNop : Prop :=
  ∀ s : State,
    (∀ x ∈ [(Instr.clc, (0x18 : Byte), Flag.c, false), (.sec, 0x38, .c, true), (.cld, 0xD8, .d, false), (.sed, 0xF8, .d, true),
        (.cli, 0x58, .i, false), (.sei, 0x78, .i, true), (.clv, 0xB8, .v, false)],
      (⟨x.1, [x.2.1], 2, busImplied s, ()⟩ : Line Unit).does s fun t => t.flag x.2.2.1 = x.2.2.2 ∧ Frame [] [x.2.2.1] [] s t) ∧
    ((⟨.nop, [0xEA], 2, busImplied s, ()⟩ : Line Unit).does s fun t => t.p = s.p ∧ t.mem = s.mem ∧ Frame [] [] [] s t)

/-- The effective address of every zero page, absolute and indirect mode, as numbers with their wraps (log 20, 22). Rests on
40_addressing_modes.md sections 3 to 5; 92_eei_decisions.md D11. -/
def Obligations.EffectiveAddresses : Prop :=
  ∀ (n : Byte) (nn : Word) (s : State),
    (eaZp n).toNat = n.toNat ∧ (eaZpX n s).toNat = (n.toNat + s.x.toNat) % 256 ∧ (eaZpY n s).toNat = (n.toNat + s.y.toNat) % 256 ∧
    (eaAbsX nn s).toNat = (nn.toNat + s.x.toNat) % 65536 ∧ (eaAbsY nn s).toNat = (nn.toNat + s.y.toNat) % 65536 ∧
    (eaInd n s).toNat = (s.mem.read n.toNat).toNat + 256 * (s.mem.read ((n.toNat + 1) % 256)).toNat ∧
    (eaIndX n s).toNat = ((eaInd n s).toNat + s.x.toNat) % 65536

/-- An instruction takes one cycle more than its listed bus accesses, plus the decimal cycle of note c; 2 to 9 in all (log 29).
Rests on 20_memory.md section 6; 70_reset_and_hazards.md section 4; 93_implementation_defined.md U17. -/
def Obligations.BusAccessesCountTheCycles : Prop :=
  ∀ (i : Instr) (s : State),
    (i.mnemonic ∉ bitBranches →
      (busSequence i s).length + 1 + (if i.mnemonic ∈ decimalMnemonics then decimalCycle s else 0) = cycleCount i s) ∧
    (busSequence i s).length + 1 ≤ cycleCount i s ∧ 2 ≤ cycleCount i s ∧ cycleCount i s ≤ 9

/-- The writes of an instruction's bus sequence, applied in order, are exactly what the instruction does to memory (ROM: log
40). Rests on 20_memory.md section 6; 20_memory.md section 3. -/
def Obligations.BusWritesAreTheMemoryEffect : Prop :=
  ∀ (i : Instr) (s t : State), exec i s = .next t → t.mem = (applyWrites s (busSequence i s)).mem

/-- A store over the next operation code, in RAM, is seen by its fetch: the next step runs the stored instruction (log 31).
Rests on 20_memory.md section 5; 70_reset_and_hazards.md section 3; 92_eei_decisions.md D9. -/
def Obligations.StoreIsSeenByTheNextFetch : Prop :=
  ∀ (s t : State) (i : Instr), exec (.staAbs (s.pc + 3)) s = .next t → t.acceptedEvent = none → encode i = [s.a] →
    s.isRom (s.pc + 3) = false → step t = exec i t

/-- With no event accepted, 80 FE and a JMP to itself change nothing and end the run; BRK and a Not Used code never end one
(convention: log 36). Rests on 70_reset_and_hazards.md section 5; 92_eei_decisions.md D16. -/
def Obligations.SelfBranchIsTheEndOfARun : Prop :=
  (∀ s : State, s.acceptedEvent = none → (CodeAtPc (.bra 0xFE) s ∨ CodeAtPc (.jmpAbs s.pc) s) →
    step s = .next s ∧ runEnded s = true) ∧
  ∀ s : State, runEnded s = true → s.read s.pc ≠ 0x00 ∧ s.read s.pc ∉ notUsedCodes ∧ s.acceptedEvent = none ∧
    ∃ t, step s = .next t ∧ t.pc = s.pc ∧ t.acceptedEvent = none

/-- RAM reads back the last byte written, a write to ROM has no effect, and no instruction and no step changes ROM or the map
(log 2, 40). Rests on 20_memory.md section 3; 92_eei_decisions.md D20. -/
def Obligations.WritesReachRamAndNotRom : Prop :=
  (∀ (s : State) (addr other : Word) (v : Byte),
      (s.write addr v).read other = if other = addr ∧ s.isRom addr = false then v else s.read other) ∧
  (∀ (i : Instr) (s t : State), exec i s = .next t → t.rom = s.rom ∧ ∀ addr, s.isRom addr = true → t.read addr = s.read addr) ∧
  ∀ s t : State, step s = .next t → t.rom = s.rom ∧ ∀ addr, s.isRom addr = true → t.read addr = s.read addr

end
end

