-- ==== Sys2Proof/Laws/Bytes.lean ====
section
/-! SUPPORT. Halves of words and the stack address. -/

namespace Sys2Proof

theorem joinBytes_toNat (h l : Byte) : (joinBytes h l).toNat = 256 * h.toNat + l.toNat := by
  have hl : l.toNat < 2 ^ 8 := l.isLt
  simp only [joinBytes, BitVec.toNat_append]
  rw [Nat.shiftLeft_eq, Nat.mul_comm, ← Nat.two_pow_add_eq_or_of_lt hl]

theorem hiByte_toNat (v : Word) : (hiByte v).toNat = v.toNat / 256 := by
  have := v.isLt
  simp only [hiByte, BitVec.extractLsb'_toNat, Nat.shiftRight_eq_div_pow]
  omega

theorem loByte_toNat (v : Word) : (loByte v).toNat = v.toNat % 256 := by
  simp [loByte, BitVec.extractLsb'_toNat]

@[simp] theorem hiByte_joinBytes (h l : Byte) : hiByte (joinBytes h l) = h := by
  have := l.isLt
  apply BitVec.eq_of_toNat_eq
  rw [hiByte_toNat, joinBytes_toNat]
  omega

@[simp] theorem loByte_joinBytes (h l : Byte) : loByte (joinBytes h l) = l := by
  have := l.isLt
  apply BitVec.eq_of_toNat_eq
  rw [loByte_toNat, joinBytes_toNat]
  omega

@[simp] theorem joinBytes_hiByte_loByte (v : Word) : joinBytes (hiByte v) (loByte v) = v := by
  apply BitVec.eq_of_toNat_eq
  rw [joinBytes_toNat, hiByte_toNat, loByte_toNat]
  omega

theorem joinBytes_inj {h l h' l' : Byte} : joinBytes h l = joinBytes h' l' ↔ h = h' ∧ l = l' := by
  constructor
  · intro e
    have e1 := congrArg hiByte e
    have e2 := congrArg loByte e
    rw [hiByte_joinBytes, hiByte_joinBytes] at e1
    rw [loByte_joinBytes, loByte_joinBytes] at e2
    exact ⟨e1, e2⟩
  · rintro ⟨rfl, rfl⟩
    rfl

namespace Machine

@[simp] theorem stackAddr_inj {p q : Byte} : stackAddr p = stackAddr q ↔ p = q := by
  simp [stackAddr, joinBytes_inj]

/-- The stack never leaves page 01 (R23, R73). -/
theorem stackAddr_toNat (p : Byte) : (stackAddr p).toNat = 256 + p.toNat := by
  simp [stackAddr, joinBytes_toNat]

/-! Stack pointers a few bytes apart differ, in the form simp gives the literals. -/

@[simp] theorem sub_one_ne (p : Byte) : ¬ p - 1#8 = p := by bv_omega
@[simp] theorem sub_two_ne (p : Byte) : ¬ p - 2#8 = p := by bv_omega
@[simp] theorem ne_sub_one (p : Byte) : ¬ p = p - 1#8 := by bv_omega
@[simp] theorem ne_sub_two (p : Byte) : ¬ p = p - 2#8 := by bv_omega
@[simp] theorem sub_one_ne_sub_two (p : Byte) : ¬ p - 1#8 = p - 2#8 := by bv_omega
@[simp] theorem sub_two_ne_sub_one (p : Byte) : ¬ p - 2#8 = p - 1#8 := by bv_omega
@[simp] theorem sub_one_sub_one (p : Byte) : p - 1#8 - 1#8 = p - 2#8 := by bv_omega
@[simp] theorem sub_two_sub_one (p : Byte) : p - 2#8 - 1#8 = p - 3#8 := by bv_omega
@[simp] theorem add_one_add_one (p : Byte) : p + 1#8 + 1#8 = p + 2#8 := by bv_omega
@[simp] theorem add_two_add_one (p : Byte) : p + 2#8 + 1#8 = p + 3#8 := by bv_omega

end Machine

end Sys2Proof
end

