-- ==== Sys2Proof/Laws/State.lean ====
section
/-! SUPPORT. One lemma per field per update of State, true by rfl, so that no later proof unfolds a record update. -/

namespace Sys2Proof.Machine

@[simp] theorem State.setA_a (s : State) (v : Byte) : (s.setA v).a = v := rfl
@[simp] theorem State.setA_x (s : State) (v : Byte) : (s.setA v).x = s.x := rfl
@[simp] theorem State.setA_y (s : State) (v : Byte) : (s.setA v).y = s.y := rfl
@[simp] theorem State.setA_sp (s : State) (v : Byte) : (s.setA v).sp = s.sp := rfl
@[simp] theorem State.setA_p (s : State) (v : Byte) : (s.setA v).p = s.p := rfl
@[simp] theorem State.setA_pc (s : State) (v : Byte) : (s.setA v).pc = s.pc := rfl
@[simp] theorem State.setA_w (s : State) (v : Byte) : (s.setA v).w = s.w := rfl
@[simp] theorem State.setA_ireg (s : State) (v : Byte) : (s.setA v).ireg = s.ireg := rfl
@[simp] theorem State.setA_mem (s : State) (v : Byte) : (s.setA v).mem = s.mem := rfl
@[simp] theorem State.setA_rom (s : State) (v : Byte) : (s.setA v).rom = s.rom := rfl
@[simp] theorem State.setA_resetRequest (s : State) (v : Byte) : (s.setA v).resetRequest = s.resetRequest := rfl
@[simp] theorem State.setA_nmiRequest (s : State) (v : Byte) : (s.setA v).nmiRequest = s.nmiRequest := rfl
@[simp] theorem State.setA_irqRequests (s : State) (v : Byte) : (s.setA v).irqRequests = s.irqRequests := rfl
@[simp] theorem State.setA_draws (s : State) (v : Byte) : (s.setA v).draws = s.draws := rfl

@[simp] theorem State.setX_a (s : State) (v : Byte) : (s.setX v).a = s.a := rfl
@[simp] theorem State.setX_x (s : State) (v : Byte) : (s.setX v).x = v := rfl
@[simp] theorem State.setX_y (s : State) (v : Byte) : (s.setX v).y = s.y := rfl
@[simp] theorem State.setX_sp (s : State) (v : Byte) : (s.setX v).sp = s.sp := rfl
@[simp] theorem State.setX_p (s : State) (v : Byte) : (s.setX v).p = s.p := rfl
@[simp] theorem State.setX_pc (s : State) (v : Byte) : (s.setX v).pc = s.pc := rfl
@[simp] theorem State.setX_w (s : State) (v : Byte) : (s.setX v).w = s.w := rfl
@[simp] theorem State.setX_ireg (s : State) (v : Byte) : (s.setX v).ireg = s.ireg := rfl
@[simp] theorem State.setX_mem (s : State) (v : Byte) : (s.setX v).mem = s.mem := rfl
@[simp] theorem State.setX_rom (s : State) (v : Byte) : (s.setX v).rom = s.rom := rfl
@[simp] theorem State.setX_resetRequest (s : State) (v : Byte) : (s.setX v).resetRequest = s.resetRequest := rfl
@[simp] theorem State.setX_nmiRequest (s : State) (v : Byte) : (s.setX v).nmiRequest = s.nmiRequest := rfl
@[simp] theorem State.setX_irqRequests (s : State) (v : Byte) : (s.setX v).irqRequests = s.irqRequests := rfl
@[simp] theorem State.setX_draws (s : State) (v : Byte) : (s.setX v).draws = s.draws := rfl

@[simp] theorem State.setY_a (s : State) (v : Byte) : (s.setY v).a = s.a := rfl
@[simp] theorem State.setY_x (s : State) (v : Byte) : (s.setY v).x = s.x := rfl
@[simp] theorem State.setY_y (s : State) (v : Byte) : (s.setY v).y = v := rfl
@[simp] theorem State.setY_sp (s : State) (v : Byte) : (s.setY v).sp = s.sp := rfl
@[simp] theorem State.setY_p (s : State) (v : Byte) : (s.setY v).p = s.p := rfl
@[simp] theorem State.setY_pc (s : State) (v : Byte) : (s.setY v).pc = s.pc := rfl
@[simp] theorem State.setY_w (s : State) (v : Byte) : (s.setY v).w = s.w := rfl
@[simp] theorem State.setY_ireg (s : State) (v : Byte) : (s.setY v).ireg = s.ireg := rfl
@[simp] theorem State.setY_mem (s : State) (v : Byte) : (s.setY v).mem = s.mem := rfl
@[simp] theorem State.setY_rom (s : State) (v : Byte) : (s.setY v).rom = s.rom := rfl
@[simp] theorem State.setY_resetRequest (s : State) (v : Byte) : (s.setY v).resetRequest = s.resetRequest := rfl
@[simp] theorem State.setY_nmiRequest (s : State) (v : Byte) : (s.setY v).nmiRequest = s.nmiRequest := rfl
@[simp] theorem State.setY_irqRequests (s : State) (v : Byte) : (s.setY v).irqRequests = s.irqRequests := rfl
@[simp] theorem State.setY_draws (s : State) (v : Byte) : (s.setY v).draws = s.draws := rfl

@[simp] theorem State.setSp_a (s : State) (v : Byte) : (s.setSp v).a = s.a := rfl
@[simp] theorem State.setSp_x (s : State) (v : Byte) : (s.setSp v).x = s.x := rfl
@[simp] theorem State.setSp_y (s : State) (v : Byte) : (s.setSp v).y = s.y := rfl
@[simp] theorem State.setSp_sp (s : State) (v : Byte) : (s.setSp v).sp = v := rfl
@[simp] theorem State.setSp_p (s : State) (v : Byte) : (s.setSp v).p = s.p := rfl
@[simp] theorem State.setSp_pc (s : State) (v : Byte) : (s.setSp v).pc = s.pc := rfl
@[simp] theorem State.setSp_w (s : State) (v : Byte) : (s.setSp v).w = s.w := rfl
@[simp] theorem State.setSp_ireg (s : State) (v : Byte) : (s.setSp v).ireg = s.ireg := rfl
@[simp] theorem State.setSp_mem (s : State) (v : Byte) : (s.setSp v).mem = s.mem := rfl
@[simp] theorem State.setSp_rom (s : State) (v : Byte) : (s.setSp v).rom = s.rom := rfl
@[simp] theorem State.setSp_resetRequest (s : State) (v : Byte) : (s.setSp v).resetRequest = s.resetRequest := rfl
@[simp] theorem State.setSp_nmiRequest (s : State) (v : Byte) : (s.setSp v).nmiRequest = s.nmiRequest := rfl
@[simp] theorem State.setSp_irqRequests (s : State) (v : Byte) : (s.setSp v).irqRequests = s.irqRequests := rfl
@[simp] theorem State.setSp_draws (s : State) (v : Byte) : (s.setSp v).draws = s.draws := rfl

@[simp] theorem State.setP_a (s : State) (v : Byte) : (s.setP v).a = s.a := rfl
@[simp] theorem State.setP_x (s : State) (v : Byte) : (s.setP v).x = s.x := rfl
@[simp] theorem State.setP_y (s : State) (v : Byte) : (s.setP v).y = s.y := rfl
@[simp] theorem State.setP_sp (s : State) (v : Byte) : (s.setP v).sp = s.sp := rfl
@[simp] theorem State.setP_p (s : State) (v : Byte) : (s.setP v).p = v := rfl
@[simp] theorem State.setP_pc (s : State) (v : Byte) : (s.setP v).pc = s.pc := rfl
@[simp] theorem State.setP_w (s : State) (v : Byte) : (s.setP v).w = s.w := rfl
@[simp] theorem State.setP_ireg (s : State) (v : Byte) : (s.setP v).ireg = s.ireg := rfl
@[simp] theorem State.setP_mem (s : State) (v : Byte) : (s.setP v).mem = s.mem := rfl
@[simp] theorem State.setP_rom (s : State) (v : Byte) : (s.setP v).rom = s.rom := rfl
@[simp] theorem State.setP_resetRequest (s : State) (v : Byte) : (s.setP v).resetRequest = s.resetRequest := rfl
@[simp] theorem State.setP_nmiRequest (s : State) (v : Byte) : (s.setP v).nmiRequest = s.nmiRequest := rfl
@[simp] theorem State.setP_irqRequests (s : State) (v : Byte) : (s.setP v).irqRequests = s.irqRequests := rfl
@[simp] theorem State.setP_draws (s : State) (v : Byte) : (s.setP v).draws = s.draws := rfl

@[simp] theorem State.setPc_a (s : State) (v : Word) : (s.setPc v).a = s.a := rfl
@[simp] theorem State.setPc_x (s : State) (v : Word) : (s.setPc v).x = s.x := rfl
@[simp] theorem State.setPc_y (s : State) (v : Word) : (s.setPc v).y = s.y := rfl
@[simp] theorem State.setPc_sp (s : State) (v : Word) : (s.setPc v).sp = s.sp := rfl
@[simp] theorem State.setPc_p (s : State) (v : Word) : (s.setPc v).p = s.p := rfl
@[simp] theorem State.setPc_pc (s : State) (v : Word) : (s.setPc v).pc = v := rfl
@[simp] theorem State.setPc_w (s : State) (v : Word) : (s.setPc v).w = s.w := rfl
@[simp] theorem State.setPc_ireg (s : State) (v : Word) : (s.setPc v).ireg = s.ireg := rfl
@[simp] theorem State.setPc_mem (s : State) (v : Word) : (s.setPc v).mem = s.mem := rfl
@[simp] theorem State.setPc_rom (s : State) (v : Word) : (s.setPc v).rom = s.rom := rfl
@[simp] theorem State.setPc_resetRequest (s : State) (v : Word) : (s.setPc v).resetRequest = s.resetRequest := rfl
@[simp] theorem State.setPc_nmiRequest (s : State) (v : Word) : (s.setPc v).nmiRequest = s.nmiRequest := rfl
@[simp] theorem State.setPc_irqRequests (s : State) (v : Word) : (s.setPc v).irqRequests = s.irqRequests := rfl
@[simp] theorem State.setPc_draws (s : State) (v : Word) : (s.setPc v).draws = s.draws := rfl

@[simp] theorem State.setW_a (s : State) (v : Word) : (s.setW v).a = s.a := rfl
@[simp] theorem State.setW_x (s : State) (v : Word) : (s.setW v).x = s.x := rfl
@[simp] theorem State.setW_y (s : State) (v : Word) : (s.setW v).y = s.y := rfl
@[simp] theorem State.setW_sp (s : State) (v : Word) : (s.setW v).sp = s.sp := rfl
@[simp] theorem State.setW_p (s : State) (v : Word) : (s.setW v).p = s.p := rfl
@[simp] theorem State.setW_pc (s : State) (v : Word) : (s.setW v).pc = s.pc := rfl
@[simp] theorem State.setW_w (s : State) (v : Word) : (s.setW v).w = v := rfl
@[simp] theorem State.setW_ireg (s : State) (v : Word) : (s.setW v).ireg = s.ireg := rfl
@[simp] theorem State.setW_mem (s : State) (v : Word) : (s.setW v).mem = s.mem := rfl
@[simp] theorem State.setW_rom (s : State) (v : Word) : (s.setW v).rom = s.rom := rfl
@[simp] theorem State.setW_resetRequest (s : State) (v : Word) : (s.setW v).resetRequest = s.resetRequest := rfl
@[simp] theorem State.setW_nmiRequest (s : State) (v : Word) : (s.setW v).nmiRequest = s.nmiRequest := rfl
@[simp] theorem State.setW_irqRequests (s : State) (v : Word) : (s.setW v).irqRequests = s.irqRequests := rfl
@[simp] theorem State.setW_draws (s : State) (v : Word) : (s.setW v).draws = s.draws := rfl

@[simp] theorem State.setIreg_a (s : State) (v : Word) : (s.setIreg v).a = s.a := rfl
@[simp] theorem State.setIreg_x (s : State) (v : Word) : (s.setIreg v).x = s.x := rfl
@[simp] theorem State.setIreg_y (s : State) (v : Word) : (s.setIreg v).y = s.y := rfl
@[simp] theorem State.setIreg_sp (s : State) (v : Word) : (s.setIreg v).sp = s.sp := rfl
@[simp] theorem State.setIreg_p (s : State) (v : Word) : (s.setIreg v).p = s.p := rfl
@[simp] theorem State.setIreg_pc (s : State) (v : Word) : (s.setIreg v).pc = s.pc := rfl
@[simp] theorem State.setIreg_w (s : State) (v : Word) : (s.setIreg v).w = s.w := rfl
@[simp] theorem State.setIreg_ireg (s : State) (v : Word) : (s.setIreg v).ireg = v := rfl
@[simp] theorem State.setIreg_mem (s : State) (v : Word) : (s.setIreg v).mem = s.mem := rfl
@[simp] theorem State.setIreg_rom (s : State) (v : Word) : (s.setIreg v).rom = s.rom := rfl
@[simp] theorem State.setIreg_resetRequest (s : State) (v : Word) : (s.setIreg v).resetRequest = s.resetRequest := rfl
@[simp] theorem State.setIreg_nmiRequest (s : State) (v : Word) : (s.setIreg v).nmiRequest = s.nmiRequest := rfl
@[simp] theorem State.setIreg_irqRequests (s : State) (v : Word) : (s.setIreg v).irqRequests = s.irqRequests := rfl
@[simp] theorem State.setIreg_draws (s : State) (v : Word) : (s.setIreg v).draws = s.draws := rfl

@[simp] theorem State.setMem_a (s : State) (v : Memory) : (s.setMem v).a = s.a := rfl
@[simp] theorem State.setMem_x (s : State) (v : Memory) : (s.setMem v).x = s.x := rfl
@[simp] theorem State.setMem_y (s : State) (v : Memory) : (s.setMem v).y = s.y := rfl
@[simp] theorem State.setMem_sp (s : State) (v : Memory) : (s.setMem v).sp = s.sp := rfl
@[simp] theorem State.setMem_p (s : State) (v : Memory) : (s.setMem v).p = s.p := rfl
@[simp] theorem State.setMem_pc (s : State) (v : Memory) : (s.setMem v).pc = s.pc := rfl
@[simp] theorem State.setMem_w (s : State) (v : Memory) : (s.setMem v).w = s.w := rfl
@[simp] theorem State.setMem_ireg (s : State) (v : Memory) : (s.setMem v).ireg = s.ireg := rfl
@[simp] theorem State.setMem_mem (s : State) (v : Memory) : (s.setMem v).mem = v := rfl
@[simp] theorem State.setMem_rom (s : State) (v : Memory) : (s.setMem v).rom = s.rom := rfl
@[simp] theorem State.setMem_resetRequest (s : State) (v : Memory) : (s.setMem v).resetRequest = s.resetRequest := rfl
@[simp] theorem State.setMem_nmiRequest (s : State) (v : Memory) : (s.setMem v).nmiRequest = s.nmiRequest := rfl
@[simp] theorem State.setMem_irqRequests (s : State) (v : Memory) : (s.setMem v).irqRequests = s.irqRequests := rfl
@[simp] theorem State.setMem_draws (s : State) (v : Memory) : (s.setMem v).draws = s.draws := rfl

@[simp] theorem State.setRom_a (s : State) (v : List Region) : (s.setRom v).a = s.a := rfl
@[simp] theorem State.setRom_x (s : State) (v : List Region) : (s.setRom v).x = s.x := rfl
@[simp] theorem State.setRom_y (s : State) (v : List Region) : (s.setRom v).y = s.y := rfl
@[simp] theorem State.setRom_sp (s : State) (v : List Region) : (s.setRom v).sp = s.sp := rfl
@[simp] theorem State.setRom_p (s : State) (v : List Region) : (s.setRom v).p = s.p := rfl
@[simp] theorem State.setRom_pc (s : State) (v : List Region) : (s.setRom v).pc = s.pc := rfl
@[simp] theorem State.setRom_w (s : State) (v : List Region) : (s.setRom v).w = s.w := rfl
@[simp] theorem State.setRom_ireg (s : State) (v : List Region) : (s.setRom v).ireg = s.ireg := rfl
@[simp] theorem State.setRom_mem (s : State) (v : List Region) : (s.setRom v).mem = s.mem := rfl
@[simp] theorem State.setRom_rom (s : State) (v : List Region) : (s.setRom v).rom = v := rfl
@[simp] theorem State.setRom_resetRequest (s : State) (v : List Region) : (s.setRom v).resetRequest = s.resetRequest := rfl
@[simp] theorem State.setRom_nmiRequest (s : State) (v : List Region) : (s.setRom v).nmiRequest = s.nmiRequest := rfl
@[simp] theorem State.setRom_irqRequests (s : State) (v : List Region) : (s.setRom v).irqRequests = s.irqRequests := rfl
@[simp] theorem State.setRom_draws (s : State) (v : List Region) : (s.setRom v).draws = s.draws := rfl

@[simp] theorem State.setResetRequest_a (s : State) (v : Bool) : (s.setResetRequest v).a = s.a := rfl
@[simp] theorem State.setResetRequest_x (s : State) (v : Bool) : (s.setResetRequest v).x = s.x := rfl
@[simp] theorem State.setResetRequest_y (s : State) (v : Bool) : (s.setResetRequest v).y = s.y := rfl
@[simp] theorem State.setResetRequest_sp (s : State) (v : Bool) : (s.setResetRequest v).sp = s.sp := rfl
@[simp] theorem State.setResetRequest_p (s : State) (v : Bool) : (s.setResetRequest v).p = s.p := rfl
@[simp] theorem State.setResetRequest_pc (s : State) (v : Bool) : (s.setResetRequest v).pc = s.pc := rfl
@[simp] theorem State.setResetRequest_w (s : State) (v : Bool) : (s.setResetRequest v).w = s.w := rfl
@[simp] theorem State.setResetRequest_ireg (s : State) (v : Bool) : (s.setResetRequest v).ireg = s.ireg := rfl
@[simp] theorem State.setResetRequest_mem (s : State) (v : Bool) : (s.setResetRequest v).mem = s.mem := rfl
@[simp] theorem State.setResetRequest_rom (s : State) (v : Bool) : (s.setResetRequest v).rom = s.rom := rfl
@[simp] theorem State.setResetRequest_resetRequest (s : State) (v : Bool) : (s.setResetRequest v).resetRequest = v := rfl
@[simp] theorem State.setResetRequest_nmiRequest (s : State) (v : Bool) : (s.setResetRequest v).nmiRequest = s.nmiRequest := rfl
@[simp] theorem State.setResetRequest_irqRequests (s : State) (v : Bool) : (s.setResetRequest v).irqRequests = s.irqRequests := rfl
@[simp] theorem State.setResetRequest_draws (s : State) (v : Bool) : (s.setResetRequest v).draws = s.draws := rfl

@[simp] theorem State.setNmiRequest_a (s : State) (v : Bool) : (s.setNmiRequest v).a = s.a := rfl
@[simp] theorem State.setNmiRequest_x (s : State) (v : Bool) : (s.setNmiRequest v).x = s.x := rfl
@[simp] theorem State.setNmiRequest_y (s : State) (v : Bool) : (s.setNmiRequest v).y = s.y := rfl
@[simp] theorem State.setNmiRequest_sp (s : State) (v : Bool) : (s.setNmiRequest v).sp = s.sp := rfl
@[simp] theorem State.setNmiRequest_p (s : State) (v : Bool) : (s.setNmiRequest v).p = s.p := rfl
@[simp] theorem State.setNmiRequest_pc (s : State) (v : Bool) : (s.setNmiRequest v).pc = s.pc := rfl
@[simp] theorem State.setNmiRequest_w (s : State) (v : Bool) : (s.setNmiRequest v).w = s.w := rfl
@[simp] theorem State.setNmiRequest_ireg (s : State) (v : Bool) : (s.setNmiRequest v).ireg = s.ireg := rfl
@[simp] theorem State.setNmiRequest_mem (s : State) (v : Bool) : (s.setNmiRequest v).mem = s.mem := rfl
@[simp] theorem State.setNmiRequest_rom (s : State) (v : Bool) : (s.setNmiRequest v).rom = s.rom := rfl
@[simp] theorem State.setNmiRequest_resetRequest (s : State) (v : Bool) : (s.setNmiRequest v).resetRequest = s.resetRequest := rfl
@[simp] theorem State.setNmiRequest_nmiRequest (s : State) (v : Bool) : (s.setNmiRequest v).nmiRequest = v := rfl
@[simp] theorem State.setNmiRequest_irqRequests (s : State) (v : Bool) : (s.setNmiRequest v).irqRequests = s.irqRequests := rfl
@[simp] theorem State.setNmiRequest_draws (s : State) (v : Bool) : (s.setNmiRequest v).draws = s.draws := rfl

@[simp] theorem State.setIrqRequests_a (s : State) (v : List Nat) : (s.setIrqRequests v).a = s.a := rfl
@[simp] theorem State.setIrqRequests_x (s : State) (v : List Nat) : (s.setIrqRequests v).x = s.x := rfl
@[simp] theorem State.setIrqRequests_y (s : State) (v : List Nat) : (s.setIrqRequests v).y = s.y := rfl
@[simp] theorem State.setIrqRequests_sp (s : State) (v : List Nat) : (s.setIrqRequests v).sp = s.sp := rfl
@[simp] theorem State.setIrqRequests_p (s : State) (v : List Nat) : (s.setIrqRequests v).p = s.p := rfl
@[simp] theorem State.setIrqRequests_pc (s : State) (v : List Nat) : (s.setIrqRequests v).pc = s.pc := rfl
@[simp] theorem State.setIrqRequests_w (s : State) (v : List Nat) : (s.setIrqRequests v).w = s.w := rfl
@[simp] theorem State.setIrqRequests_ireg (s : State) (v : List Nat) : (s.setIrqRequests v).ireg = s.ireg := rfl
@[simp] theorem State.setIrqRequests_mem (s : State) (v : List Nat) : (s.setIrqRequests v).mem = s.mem := rfl
@[simp] theorem State.setIrqRequests_rom (s : State) (v : List Nat) : (s.setIrqRequests v).rom = s.rom := rfl
@[simp] theorem State.setIrqRequests_resetRequest (s : State) (v : List Nat) : (s.setIrqRequests v).resetRequest = s.resetRequest := rfl
@[simp] theorem State.setIrqRequests_nmiRequest (s : State) (v : List Nat) : (s.setIrqRequests v).nmiRequest = s.nmiRequest := rfl
@[simp] theorem State.setIrqRequests_irqRequests (s : State) (v : List Nat) : (s.setIrqRequests v).irqRequests = v := rfl
@[simp] theorem State.setIrqRequests_draws (s : State) (v : List Nat) : (s.setIrqRequests v).draws = s.draws := rfl

@[simp] theorem State.setDraws_a (s : State) (v : Nat) : (s.setDraws v).a = s.a := rfl
@[simp] theorem State.setDraws_x (s : State) (v : Nat) : (s.setDraws v).x = s.x := rfl
@[simp] theorem State.setDraws_y (s : State) (v : Nat) : (s.setDraws v).y = s.y := rfl
@[simp] theorem State.setDraws_sp (s : State) (v : Nat) : (s.setDraws v).sp = s.sp := rfl
@[simp] theorem State.setDraws_p (s : State) (v : Nat) : (s.setDraws v).p = s.p := rfl
@[simp] theorem State.setDraws_pc (s : State) (v : Nat) : (s.setDraws v).pc = s.pc := rfl
@[simp] theorem State.setDraws_w (s : State) (v : Nat) : (s.setDraws v).w = s.w := rfl
@[simp] theorem State.setDraws_ireg (s : State) (v : Nat) : (s.setDraws v).ireg = s.ireg := rfl
@[simp] theorem State.setDraws_mem (s : State) (v : Nat) : (s.setDraws v).mem = s.mem := rfl
@[simp] theorem State.setDraws_rom (s : State) (v : Nat) : (s.setDraws v).rom = s.rom := rfl
@[simp] theorem State.setDraws_resetRequest (s : State) (v : Nat) : (s.setDraws v).resetRequest = s.resetRequest := rfl
@[simp] theorem State.setDraws_nmiRequest (s : State) (v : Nat) : (s.setDraws v).nmiRequest = s.nmiRequest := rfl
@[simp] theorem State.setDraws_irqRequests (s : State) (v : Nat) : (s.setDraws v).irqRequests = s.irqRequests := rfl
@[simp] theorem State.setDraws_draws (s : State) (v : Nat) : (s.setDraws v).draws = v := rfl

@[simp] theorem State.setFlag_a (s : State) (f : Flag) (v : Bool) : (s.setFlag f v).a = s.a := rfl
@[simp] theorem State.setFlag_x (s : State) (f : Flag) (v : Bool) : (s.setFlag f v).x = s.x := rfl
@[simp] theorem State.setFlag_y (s : State) (f : Flag) (v : Bool) : (s.setFlag f v).y = s.y := rfl
@[simp] theorem State.setFlag_sp (s : State) (f : Flag) (v : Bool) : (s.setFlag f v).sp = s.sp := rfl
@[simp] theorem State.setFlag_p (s : State) (f : Flag) (v : Bool) : (s.setFlag f v).p = withFlag s.p f v := rfl
@[simp] theorem State.setFlag_pc (s : State) (f : Flag) (v : Bool) : (s.setFlag f v).pc = s.pc := rfl
@[simp] theorem State.setFlag_w (s : State) (f : Flag) (v : Bool) : (s.setFlag f v).w = s.w := rfl
@[simp] theorem State.setFlag_ireg (s : State) (f : Flag) (v : Bool) : (s.setFlag f v).ireg = s.ireg := rfl
@[simp] theorem State.setFlag_mem (s : State) (f : Flag) (v : Bool) : (s.setFlag f v).mem = s.mem := rfl
@[simp] theorem State.setFlag_rom (s : State) (f : Flag) (v : Bool) : (s.setFlag f v).rom = s.rom := rfl
@[simp] theorem State.setFlag_resetRequest (s : State) (f : Flag) (v : Bool) : (s.setFlag f v).resetRequest = s.resetRequest := rfl
@[simp] theorem State.setFlag_nmiRequest (s : State) (f : Flag) (v : Bool) : (s.setFlag f v).nmiRequest = s.nmiRequest := rfl
@[simp] theorem State.setFlag_irqRequests (s : State) (f : Flag) (v : Bool) : (s.setFlag f v).irqRequests = s.irqRequests := rfl
@[simp] theorem State.setFlag_draws (s : State) (f : Flag) (v : Bool) : (s.setFlag f v).draws = s.draws := rfl

@[simp] theorem State.setNZ_a (s : State) (v : Byte) : (s.setNZ v).a = s.a := rfl
@[simp] theorem State.setNZ_x (s : State) (v : Byte) : (s.setNZ v).x = s.x := rfl
@[simp] theorem State.setNZ_y (s : State) (v : Byte) : (s.setNZ v).y = s.y := rfl
@[simp] theorem State.setNZ_sp (s : State) (v : Byte) : (s.setNZ v).sp = s.sp := rfl
@[simp] theorem State.setNZ_p (s : State) (v : Byte) : (s.setNZ v).p = withFlag (withFlag s.p .n v.msb) .z (v == 0) := rfl
@[simp] theorem State.setNZ_pc (s : State) (v : Byte) : (s.setNZ v).pc = s.pc := rfl
@[simp] theorem State.setNZ_w (s : State) (v : Byte) : (s.setNZ v).w = s.w := rfl
@[simp] theorem State.setNZ_ireg (s : State) (v : Byte) : (s.setNZ v).ireg = s.ireg := rfl
@[simp] theorem State.setNZ_mem (s : State) (v : Byte) : (s.setNZ v).mem = s.mem := rfl
@[simp] theorem State.setNZ_rom (s : State) (v : Byte) : (s.setNZ v).rom = s.rom := rfl
@[simp] theorem State.setNZ_resetRequest (s : State) (v : Byte) : (s.setNZ v).resetRequest = s.resetRequest := rfl
@[simp] theorem State.setNZ_nmiRequest (s : State) (v : Byte) : (s.setNZ v).nmiRequest = s.nmiRequest := rfl
@[simp] theorem State.setNZ_irqRequests (s : State) (v : Byte) : (s.setNZ v).irqRequests = s.irqRequests := rfl
@[simp] theorem State.setNZ_draws (s : State) (v : Byte) : (s.setNZ v).draws = s.draws := rfl

@[simp] theorem State.advance_a (s : State) (len : Nat) : (s.advance len).a = s.a := rfl
@[simp] theorem State.advance_x (s : State) (len : Nat) : (s.advance len).x = s.x := rfl
@[simp] theorem State.advance_y (s : State) (len : Nat) : (s.advance len).y = s.y := rfl
@[simp] theorem State.advance_sp (s : State) (len : Nat) : (s.advance len).sp = s.sp := rfl
@[simp] theorem State.advance_p (s : State) (len : Nat) : (s.advance len).p = s.p := rfl
@[simp] theorem State.advance_pc (s : State) (len : Nat) : (s.advance len).pc = s.pc + BitVec.ofNat 16 len := rfl
@[simp] theorem State.advance_w (s : State) (len : Nat) : (s.advance len).w = s.w := rfl
@[simp] theorem State.advance_ireg (s : State) (len : Nat) : (s.advance len).ireg = s.ireg := rfl
@[simp] theorem State.advance_mem (s : State) (len : Nat) : (s.advance len).mem = s.mem := rfl
@[simp] theorem State.advance_rom (s : State) (len : Nat) : (s.advance len).rom = s.rom := rfl
@[simp] theorem State.advance_resetRequest (s : State) (len : Nat) : (s.advance len).resetRequest = s.resetRequest := rfl
@[simp] theorem State.advance_nmiRequest (s : State) (len : Nat) : (s.advance len).nmiRequest = s.nmiRequest := rfl
@[simp] theorem State.advance_irqRequests (s : State) (len : Nat) : (s.advance len).irqRequests = s.irqRequests := rfl
@[simp] theorem State.advance_draws (s : State) (len : Nat) : (s.advance len).draws = s.draws := rfl

@[simp] theorem State.write_a (s : State) (addr : Word) (v : Byte) : (s.write addr v).a = s.a := rfl
@[simp] theorem State.write_x (s : State) (addr : Word) (v : Byte) : (s.write addr v).x = s.x := rfl
@[simp] theorem State.write_y (s : State) (addr : Word) (v : Byte) : (s.write addr v).y = s.y := rfl
@[simp] theorem State.write_sp (s : State) (addr : Word) (v : Byte) : (s.write addr v).sp = s.sp := rfl
@[simp] theorem State.write_p (s : State) (addr : Word) (v : Byte) : (s.write addr v).p = s.p := rfl
@[simp] theorem State.write_pc (s : State) (addr : Word) (v : Byte) : (s.write addr v).pc = s.pc := rfl
@[simp] theorem State.write_w (s : State) (addr : Word) (v : Byte) : (s.write addr v).w = s.w := rfl
@[simp] theorem State.write_ireg (s : State) (addr : Word) (v : Byte) : (s.write addr v).ireg = s.ireg := rfl
@[simp] theorem State.write_mem (s : State) (addr : Word) (v : Byte) : (s.write addr v).mem = if s.isRom addr then s.mem else s.mem.write addr.toNat v := rfl
@[simp] theorem State.write_rom (s : State) (addr : Word) (v : Byte) : (s.write addr v).rom = s.rom := rfl
@[simp] theorem State.write_resetRequest (s : State) (addr : Word) (v : Byte) : (s.write addr v).resetRequest = s.resetRequest := rfl
@[simp] theorem State.write_nmiRequest (s : State) (addr : Word) (v : Byte) : (s.write addr v).nmiRequest = s.nmiRequest := rfl
@[simp] theorem State.write_irqRequests (s : State) (addr : Word) (v : Byte) : (s.write addr v).irqRequests = s.irqRequests := rfl
@[simp] theorem State.write_draws (s : State) (addr : Word) (v : Byte) : (s.write addr v).draws = s.draws := rfl

@[simp] theorem State.load_a (s : State) (addr : Word) (v : Byte) : (s.load addr v).a = s.a := rfl
@[simp] theorem State.load_x (s : State) (addr : Word) (v : Byte) : (s.load addr v).x = s.x := rfl
@[simp] theorem State.load_y (s : State) (addr : Word) (v : Byte) : (s.load addr v).y = s.y := rfl
@[simp] theorem State.load_sp (s : State) (addr : Word) (v : Byte) : (s.load addr v).sp = s.sp := rfl
@[simp] theorem State.load_p (s : State) (addr : Word) (v : Byte) : (s.load addr v).p = s.p := rfl
@[simp] theorem State.load_pc (s : State) (addr : Word) (v : Byte) : (s.load addr v).pc = s.pc := rfl
@[simp] theorem State.load_w (s : State) (addr : Word) (v : Byte) : (s.load addr v).w = s.w := rfl
@[simp] theorem State.load_ireg (s : State) (addr : Word) (v : Byte) : (s.load addr v).ireg = s.ireg := rfl
@[simp] theorem State.load_mem (s : State) (addr : Word) (v : Byte) : (s.load addr v).mem = s.mem.write addr.toNat v := rfl
@[simp] theorem State.load_rom (s : State) (addr : Word) (v : Byte) : (s.load addr v).rom = s.rom := rfl
@[simp] theorem State.load_resetRequest (s : State) (addr : Word) (v : Byte) : (s.load addr v).resetRequest = s.resetRequest := rfl
@[simp] theorem State.load_nmiRequest (s : State) (addr : Word) (v : Byte) : (s.load addr v).nmiRequest = s.nmiRequest := rfl
@[simp] theorem State.load_irqRequests (s : State) (addr : Word) (v : Byte) : (s.load addr v).irqRequests = s.irqRequests := rfl
@[simp] theorem State.load_draws (s : State) (addr : Word) (v : Byte) : (s.load addr v).draws = s.draws := rfl

@[simp] theorem State.push8_a (s : State) (v : Byte) : (s.push8 v).a = s.a := rfl
@[simp] theorem State.push8_x (s : State) (v : Byte) : (s.push8 v).x = s.x := rfl
@[simp] theorem State.push8_y (s : State) (v : Byte) : (s.push8 v).y = s.y := rfl
@[simp] theorem State.push8_sp (s : State) (v : Byte) : (s.push8 v).sp = s.sp - 1 := rfl
@[simp] theorem State.push8_p (s : State) (v : Byte) : (s.push8 v).p = s.p := rfl
@[simp] theorem State.push8_pc (s : State) (v : Byte) : (s.push8 v).pc = s.pc := rfl
@[simp] theorem State.push8_w (s : State) (v : Byte) : (s.push8 v).w = s.w := rfl
@[simp] theorem State.push8_ireg (s : State) (v : Byte) : (s.push8 v).ireg = s.ireg := rfl
@[simp] theorem State.push8_mem (s : State) (v : Byte) : (s.push8 v).mem = (s.write (stackAddr s.sp) v).mem := rfl
@[simp] theorem State.push8_rom (s : State) (v : Byte) : (s.push8 v).rom = s.rom := rfl
@[simp] theorem State.push8_resetRequest (s : State) (v : Byte) : (s.push8 v).resetRequest = s.resetRequest := rfl
@[simp] theorem State.push8_nmiRequest (s : State) (v : Byte) : (s.push8 v).nmiRequest = s.nmiRequest := rfl
@[simp] theorem State.push8_irqRequests (s : State) (v : Byte) : (s.push8 v).irqRequests = s.irqRequests := rfl
@[simp] theorem State.push8_draws (s : State) (v : Byte) : (s.push8 v).draws = s.draws := rfl

@[simp] theorem State.push16_a (s : State) (v : Word) : (s.push16 v).a = s.a := rfl
@[simp] theorem State.push16_x (s : State) (v : Word) : (s.push16 v).x = s.x := rfl
@[simp] theorem State.push16_y (s : State) (v : Word) : (s.push16 v).y = s.y := rfl
@[simp] theorem State.push16_sp (s : State) (v : Word) : (s.push16 v).sp = s.sp - 1 - 1 := rfl
@[simp] theorem State.push16_p (s : State) (v : Word) : (s.push16 v).p = s.p := rfl
@[simp] theorem State.push16_pc (s : State) (v : Word) : (s.push16 v).pc = s.pc := rfl
@[simp] theorem State.push16_w (s : State) (v : Word) : (s.push16 v).w = s.w := rfl
@[simp] theorem State.push16_ireg (s : State) (v : Word) : (s.push16 v).ireg = s.ireg := rfl
@[simp] theorem State.push16_mem (s : State) (v : Word) : (s.push16 v).mem = ((s.write (stackAddr s.sp) (hiByte v)).write (stackAddr (s.sp - 1)) (loByte v)).mem := rfl
@[simp] theorem State.push16_rom (s : State) (v : Word) : (s.push16 v).rom = s.rom := rfl
@[simp] theorem State.push16_resetRequest (s : State) (v : Word) : (s.push16 v).resetRequest = s.resetRequest := rfl
@[simp] theorem State.push16_nmiRequest (s : State) (v : Word) : (s.push16 v).nmiRequest = s.nmiRequest := rfl
@[simp] theorem State.push16_irqRequests (s : State) (v : Word) : (s.push16 v).irqRequests = s.irqRequests := rfl
@[simp] theorem State.push16_draws (s : State) (v : Word) : (s.push16 v).draws = s.draws := rfl

@[simp] theorem State.pop8_a (s : State) : s.pop8.a = s.a := rfl
@[simp] theorem State.pop8_x (s : State) : s.pop8.x = s.x := rfl
@[simp] theorem State.pop8_y (s : State) : s.pop8.y = s.y := rfl
@[simp] theorem State.pop8_sp (s : State) : s.pop8.sp = s.sp + 1 := rfl
@[simp] theorem State.pop8_p (s : State) : s.pop8.p = s.p := rfl
@[simp] theorem State.pop8_pc (s : State) : s.pop8.pc = s.pc := rfl
@[simp] theorem State.pop8_w (s : State) : s.pop8.w = s.w := rfl
@[simp] theorem State.pop8_ireg (s : State) : s.pop8.ireg = s.ireg := rfl
@[simp] theorem State.pop8_mem (s : State) : s.pop8.mem = s.mem := rfl
@[simp] theorem State.pop8_rom (s : State) : s.pop8.rom = s.rom := rfl
@[simp] theorem State.pop8_resetRequest (s : State) : s.pop8.resetRequest = s.resetRequest := rfl
@[simp] theorem State.pop8_nmiRequest (s : State) : s.pop8.nmiRequest = s.nmiRequest := rfl
@[simp] theorem State.pop8_irqRequests (s : State) : s.pop8.irqRequests = s.irqRequests := rfl
@[simp] theorem State.pop8_draws (s : State) : s.pop8.draws = s.draws := rfl

@[simp] theorem State.pop16_a (s : State) : s.pop16.a = s.a := rfl
@[simp] theorem State.pop16_x (s : State) : s.pop16.x = s.x := rfl
@[simp] theorem State.pop16_y (s : State) : s.pop16.y = s.y := rfl
@[simp] theorem State.pop16_sp (s : State) : s.pop16.sp = s.sp + 1 + 1 := rfl
@[simp] theorem State.pop16_p (s : State) : s.pop16.p = s.p := rfl
@[simp] theorem State.pop16_pc (s : State) : s.pop16.pc = s.pc := rfl
@[simp] theorem State.pop16_w (s : State) : s.pop16.w = s.w := rfl
@[simp] theorem State.pop16_ireg (s : State) : s.pop16.ireg = s.ireg := rfl
@[simp] theorem State.pop16_mem (s : State) : s.pop16.mem = s.mem := rfl
@[simp] theorem State.pop16_rom (s : State) : s.pop16.rom = s.rom := rfl
@[simp] theorem State.pop16_resetRequest (s : State) : s.pop16.resetRequest = s.resetRequest := rfl
@[simp] theorem State.pop16_nmiRequest (s : State) : s.pop16.nmiRequest = s.nmiRequest := rfl
@[simp] theorem State.pop16_irqRequests (s : State) : s.pop16.irqRequests = s.irqRequests := rfl
@[simp] theorem State.pop16_draws (s : State) : s.pop16.draws = s.draws := rfl

@[simp] theorem State.draw_a (s : State) (k : Nat) : (s.draw k).a = s.a := rfl
@[simp] theorem State.draw_x (s : State) (k : Nat) : (s.draw k).x = s.x := rfl
@[simp] theorem State.draw_y (s : State) (k : Nat) : (s.draw k).y = s.y := rfl
@[simp] theorem State.draw_sp (s : State) (k : Nat) : (s.draw k).sp = s.sp := rfl
@[simp] theorem State.draw_p (s : State) (k : Nat) : (s.draw k).p = s.p := rfl
@[simp] theorem State.draw_pc (s : State) (k : Nat) : (s.draw k).pc = s.pc := rfl
@[simp] theorem State.draw_w (s : State) (k : Nat) : (s.draw k).w = s.w := rfl
@[simp] theorem State.draw_ireg (s : State) (k : Nat) : (s.draw k).ireg = s.ireg := rfl
@[simp] theorem State.draw_mem (s : State) (k : Nat) : (s.draw k).mem = s.mem := rfl
@[simp] theorem State.draw_rom (s : State) (k : Nat) : (s.draw k).rom = s.rom := rfl
@[simp] theorem State.draw_resetRequest (s : State) (k : Nat) : (s.draw k).resetRequest = s.resetRequest := rfl
@[simp] theorem State.draw_nmiRequest (s : State) (k : Nat) : (s.draw k).nmiRequest = s.nmiRequest := rfl
@[simp] theorem State.draw_irqRequests (s : State) (k : Nat) : (s.draw k).irqRequests = s.irqRequests := rfl
@[simp] theorem State.draw_draws (s : State) (k : Nat) : (s.draw k).draws = s.draws + k := rfl

end Sys2Proof.Machine
end

