-- ==== Sys2Proof/Laws/Flags.lean ====
section
/-! SUPPORT. The laws of the bits of P: writing one flag writes that flag and no other (R31, R194), and the setters that do not
touch P or memory leave flags and reads alone. -/

namespace Sys2Proof.Machine

theorem Flag.bit_lt (f : Flag) : f.bit < 8 := by cases f <;> decide

theorem Flag.bit_inj {f g : Flag} : f.bit = g.bit ↔ f = g := by cases f <;> cases g <;> decide

/-- P is its eight flags (R31). -/
theorem ext_flagOf {p q : Byte} (h : ∀ f, flagOf p f = flagOf q f) : p = q := by
  apply BitVec.eq_of_getLsbD_eq
  intro k hk
  have h0 := h .c
  have h1 := h .z
  have h2 := h .i
  have h3 := h .d
  have h4 := h .b
  have h5 := h .unused
  have h6 := h .v
  have h7 := h .n
  simp only [flagOf, Flag.bit] at *
  match k, hk with
  | 0, _ => exact h0
  | 1, _ => exact h1
  | 2, _ => exact h2
  | 3, _ => exact h3
  | 4, _ => exact h4
  | 5, _ => exact h5
  | 6, _ => exact h6
  | 7, _ => exact h7

/-- Writing one flag: that flag has the value, the other seven are unchanged. -/
@[simp] theorem flagOf_withFlag (p : Byte) (f g : Flag) (v : Bool) :
    flagOf (withFlag p f v) g = if g = f then v else flagOf p g := by
  have hg := g.bit_lt
  have hb : ((1 : Byte) <<< f.bit).getLsbD g.bit = decide (g = f) := by
    cases f <;> cases g <;> decide
  unfold flagOf withFlag
  generalize (1 : Byte) <<< f.bit = m at hb
  cases v
  · rw [if_neg Bool.false_ne_true, BitVec.getLsbD_and, BitVec.getLsbD_not, hb, decide_eq_true hg]
    by_cases h : g = f <;> simp [h]
  · rw [if_pos rfl, BitVec.getLsbD_or, hb]
    by_cases h : g = f <;> simp [h]

@[simp] theorem State.flag_setFlag (s : State) (f g : Flag) (v : Bool) :
    (s.setFlag f v).flag g = if g = f then v else s.flag g := flagOf_withFlag s.p f g v

/-- PLP and RTI load six bits; B and bit 5 keep their value (R33). -/
theorem flagOf_restoredP (old image : Byte) (f : Flag) :
    flagOf (restoredP old image) f = if f = .b ∨ f = .unused then flagOf old f else flagOf image f := by
  have h1 : (0xCF : Byte).getLsbD f.bit = !decide (f = .b ∨ f = .unused) := by cases f <;> decide
  have h2 : (0x30 : Byte).getLsbD f.bit = decide (f = .b ∨ f = .unused) := by cases f <;> decide
  unfold flagOf restoredP
  rw [BitVec.getLsbD_or, BitVec.getLsbD_and, BitVec.getLsbD_and, h1, h2]
  by_cases h : f = .b ∨ f = .unused <;> simp [h]

@[simp] theorem State.flag_setA (s : State) (v : Byte) (f : Flag) : (s.setA v).flag f = s.flag f := rfl
@[simp] theorem State.flag_setX (s : State) (v : Byte) (f : Flag) : (s.setX v).flag f = s.flag f := rfl
@[simp] theorem State.flag_setY (s : State) (v : Byte) (f : Flag) : (s.setY v).flag f = s.flag f := rfl
@[simp] theorem State.flag_setSp (s : State) (v : Byte) (f : Flag) : (s.setSp v).flag f = s.flag f := rfl
@[simp] theorem State.flag_setPc (s : State) (v : Word) (f : Flag) : (s.setPc v).flag f = s.flag f := rfl
@[simp] theorem State.flag_setW (s : State) (v : Word) (f : Flag) : (s.setW v).flag f = s.flag f := rfl
@[simp] theorem State.flag_setIreg (s : State) (v : Word) (f : Flag) : (s.setIreg v).flag f = s.flag f := rfl
@[simp] theorem State.flag_setResetRequest (s : State) (v : Bool) (f : Flag) : (s.setResetRequest v).flag f = s.flag f := rfl
@[simp] theorem State.flag_setNmiRequest (s : State) (v : Bool) (f : Flag) : (s.setNmiRequest v).flag f = s.flag f := rfl
@[simp] theorem State.flag_setIrqRequests (s : State) (v : List Nat) (f : Flag) : (s.setIrqRequests v).flag f = s.flag f := rfl
@[simp] theorem State.flag_setDraws (s : State) (v : Nat) (f : Flag) : (s.setDraws v).flag f = s.flag f := rfl
@[simp] theorem State.flag_setMem (s : State) (v : Memory) (f : Flag) : (s.setMem v).flag f = s.flag f := rfl
@[simp] theorem State.read_setA (s : State) (v : Byte) (b : Word) : (s.setA v).read b = s.read b := rfl
@[simp] theorem State.read_setX (s : State) (v : Byte) (b : Word) : (s.setX v).read b = s.read b := rfl
@[simp] theorem State.read_setY (s : State) (v : Byte) (b : Word) : (s.setY v).read b = s.read b := rfl
@[simp] theorem State.read_setSp (s : State) (v : Byte) (b : Word) : (s.setSp v).read b = s.read b := rfl
@[simp] theorem State.read_setPc (s : State) (v : Word) (b : Word) : (s.setPc v).read b = s.read b := rfl
@[simp] theorem State.read_setW (s : State) (v : Word) (b : Word) : (s.setW v).read b = s.read b := rfl
@[simp] theorem State.read_setIreg (s : State) (v : Word) (b : Word) : (s.setIreg v).read b = s.read b := rfl
@[simp] theorem State.read_setResetRequest (s : State) (v : Bool) (b : Word) : (s.setResetRequest v).read b = s.read b := rfl
@[simp] theorem State.read_setNmiRequest (s : State) (v : Bool) (b : Word) : (s.setNmiRequest v).read b = s.read b := rfl
@[simp] theorem State.read_setIrqRequests (s : State) (v : List Nat) (b : Word) : (s.setIrqRequests v).read b = s.read b := rfl
@[simp] theorem State.read_setDraws (s : State) (v : Nat) (b : Word) : (s.setDraws v).read b = s.read b := rfl
@[simp] theorem State.read_setP (s : State) (v : Byte) (b : Word) : (s.setP v).read b = s.read b := rfl
@[simp] theorem State.flag_advance (s : State) (len : Nat) (f : Flag) : (s.advance len).flag f = s.flag f := rfl
@[simp] theorem State.flag_write (s : State) (a : Word) (v : Byte) (f : Flag) : (s.write a v).flag f = s.flag f := rfl
@[simp] theorem State.flag_push8 (s : State) (v : Byte) (f : Flag) : (s.push8 v).flag f = s.flag f := rfl
@[simp] theorem State.flag_push16 (s : State) (v : Word) (f : Flag) : (s.push16 v).flag f = s.flag f := rfl
@[simp] theorem State.flag_pop8 (s : State) (f : Flag) : (s.pop8).flag f = s.flag f := rfl
@[simp] theorem State.flag_pop16 (s : State) (f : Flag) : (s.pop16).flag f = s.flag f := rfl
@[simp] theorem State.flag_draw (s : State) (k : Nat) (f : Flag) : (s.draw k).flag f = s.flag f := rfl
@[simp] theorem State.read_setFlag (s : State) (f : Flag) (v : Bool) (b : Word) : (s.setFlag f v).read b = s.read b := rfl
@[simp] theorem State.read_setNZ (s : State) (v : Byte) (b : Word) : (s.setNZ v).read b = s.read b := rfl
@[simp] theorem State.read_advance (s : State) (len : Nat) (b : Word) : (s.advance len).read b = s.read b := rfl
@[simp] theorem State.read_pop8 (s : State) (b : Word) : (s.pop8).read b = s.read b := rfl
@[simp] theorem State.read_pop16 (s : State) (b : Word) : (s.pop16).read b = s.read b := rfl
@[simp] theorem State.read_draw (s : State) (k : Nat) (b : Word) : (s.draw k).read b = s.read b := rfl

/-- `SetNZ` writes N and Z and no other flag (R13). -/
@[simp] theorem State.flag_setNZ (s : State) (v : Byte) (f : Flag) :
    (s.setNZ v).flag f = if f = .z then v == 0 else if f = .n then v.msb else s.flag f := by
  rw [State.setNZ, State.flag_setFlag, State.flag_setFlag]

end Sys2Proof.Machine
end

