-- ==== Sys2Proof/Laws/Memory.lean ====
section
/-! SUPPORT. The laws of memory: a read after a write, and the canonical form that every memory operation keeps. -/

namespace Sys2Proof.Machine

@[simp] theorem Memory.read_nil (k : Nat) : Memory.read [] k = unlistedByte := rfl

theorem Memory.read_cons (a : Nat) (b : Byte) (m : Memory) (k : Nat) :
    Memory.read ((a, b) :: m) k = if k = a then b else m.read k := rfl

theorem Memory.read_without (m : Memory) (k j : Nat) :
    (m.without k).read j = if j = k then unlistedByte else m.read j := by
  induction m with
  | nil => simp [Memory.without]
  | cons c m ih =>
    obtain ⟨a, b⟩ := c
    rw [Memory.without]
    by_cases h : a = k
    · subst h
      rw [if_pos rfl, ih, Memory.read_cons]
      by_cases hj : j = a
      · rw [if_pos hj, if_pos hj]
      · rw [if_neg hj, if_neg hj, if_neg hj]
    · rw [if_neg h, Memory.read_cons, ih, Memory.read_cons]
      by_cases hj : j = a
      · subst hj
        rw [if_pos rfl, if_neg h, if_pos rfl]
      · rw [if_neg hj, if_neg hj]

theorem Memory.read_place (m : Memory) (k j : Nat) (v : Byte) (hk : ∀ c ∈ m, c.1 ≠ k) :
    (m.place k v).read j = if j = k then v else m.read j := by
  induction m with
  | nil => rfl
  | cons c m ih =>
    obtain ⟨a, b⟩ := c
    have hak : a ≠ k := hk (a, b) (by simp)
    have ih := ih (fun c hc => hk c (by simp [hc]))
    rw [Memory.place]
    by_cases h : k < a
    · rw [if_pos h, Memory.read_cons]
    · rw [if_neg h, Memory.read_cons, ih, Memory.read_cons]
      by_cases hj : j = a
      · subst hj
        rw [if_pos rfl, if_neg hak, if_pos rfl]
      · rw [if_neg hj, if_neg hj]

theorem Memory.mem_without {m : Memory} {k : Nat} {c : Host.Cell} : c ∈ m.without k ↔ c ∈ m ∧ c.1 ≠ k := by
  induction m with
  | nil => simp [Memory.without]
  | cons d m ih =>
    obtain ⟨a, b⟩ := d
    rw [Memory.without]
    by_cases h : a = k
    · rw [if_pos h, ih]
      constructor
      · rintro ⟨h1, h2⟩
        exact ⟨List.mem_cons_of_mem _ h1, h2⟩
      · rintro ⟨h1, h2⟩
        rcases List.mem_cons.1 h1 with rfl | h1
        · exact absurd h h2
        · exact ⟨h1, h2⟩
    · rw [if_neg h, List.mem_cons, ih, List.mem_cons]
      constructor
      · rintro (rfl | ⟨h1, h2⟩)
        · exact ⟨.inl rfl, h⟩
        · exact ⟨.inr h1, h2⟩
      · rintro ⟨rfl | h1, h2⟩
        · exact .inl rfl
        · exact .inr ⟨h1, h2⟩

theorem Memory.mem_place {m : Memory} {k : Nat} {v : Byte} {c : Host.Cell} :
    c ∈ m.place k v ↔ c = (k, v) ∨ c ∈ m := by
  induction m with
  | nil => simp [Memory.place]
  | cons d m ih =>
    obtain ⟨a, b⟩ := d
    rw [Memory.place]
    by_cases h : k < a
    · rw [if_pos h, List.mem_cons]
    · rw [if_neg h, List.mem_cons, ih, List.mem_cons]
      tauto

/-- A read after a write: the byte written at that address, the old byte elsewhere. -/
theorem Memory.read_write (m : Memory) (k j : Nat) (v : Byte) :
    (m.write k v).read j = if j = k then v else m.read j := by
  rw [Memory.write]
  split
  · rename_i hv
    rw [Memory.read_without, hv]
  · rw [Memory.read_place _ _ _ _ (fun c hc => (Memory.mem_without.1 hc).2), Memory.read_without]
    by_cases hj : j = k
    · rw [if_pos hj, if_pos hj]
    · rw [if_neg hj, if_neg hj, if_neg hj]

theorem Memory.wf_cons {a : Nat} {b : Byte} {m : Memory} :
    Memory.wf ((a, b) :: m) = true ↔ a < 65536 ∧ b ≠ unlistedByte ∧ (∀ c ∈ m, a < c.1) ∧ m.wf = true := by
  simp [Memory.wf, and_assoc, List.all_eq_true]

theorem Memory.without_wf {m : Memory} (hm : m.wf = true) (k : Nat) : (m.without k).wf = true := by
  induction m with
  | nil => rfl
  | cons c m ih =>
    obtain ⟨a, b⟩ := c
    obtain ⟨ha, hb, hlt, hwf⟩ := Memory.wf_cons.1 hm
    rw [Memory.without]
    split
    · exact ih hwf
    · exact Memory.wf_cons.2 ⟨ha, hb, fun c hc => hlt c (Memory.mem_without.1 hc).1, ih hwf⟩

theorem Memory.place_wf {m : Memory} (hm : m.wf = true) {k : Nat} (hk : k < 65536) {v : Byte} (hv : v ≠ unlistedByte)
    (hne : ∀ c ∈ m, c.1 ≠ k) : (m.place k v).wf = true := by
  induction m with
  | nil => exact Memory.wf_cons.2 ⟨hk, hv, by simp, rfl⟩
  | cons c m ih =>
    obtain ⟨a, b⟩ := c
    obtain ⟨ha, hb, hlt, hwf⟩ := Memory.wf_cons.1 hm
    rw [Memory.place]
    split
    · rename_i hka
      refine Memory.wf_cons.2 ⟨hk, hv, fun c hc => ?_, hm⟩
      rcases List.mem_cons.1 hc with rfl | hc
      · exact hka
      · exact Nat.lt_trans hka (hlt c hc)
    · rename_i hka
      have hak : a ≠ k := hne (a, b) (by simp)
      refine Memory.wf_cons.2 ⟨ha, hb, fun c hc => ?_, ih hwf (fun c hc => hne c (by simp [hc]))⟩
      rcases Memory.mem_place.1 hc with rfl | hc
      · show a < k
        omega
      · exact hlt c hc

/-- A write to a 16-bit address keeps the canonical form. -/
theorem Memory.write_wf {m : Memory} (hm : m.wf = true) {k : Nat} (hk : k < 65536) (v : Byte) :
    (m.write k v).wf = true := by
  rw [Memory.write]
  split
  · exact Memory.without_wf hm k
  · rename_i hv
    exact Memory.place_wf (Memory.without_wf hm k) hk hv (fun c hc => (Memory.mem_without.1 hc).2)

/-- In canonical form an address below all listed ones reads as unlisted. -/
theorem Memory.read_of_lt {m : Memory} {k : Nat} (h : ∀ c ∈ m, k < c.1) : m.read k = unlistedByte := by
  induction m with
  | nil => rfl
  | cons c m ih =>
    have hc := h c (by simp)
    rw [Memory.read_cons, if_neg (by omega)]
    exact ih (fun d hd => h d (by simp [hd]))

/-- Two memories in canonical form that read alike everywhere are equal. -/
theorem Memory.ext_of_read {m m' : Memory} (hm : m.wf = true) (hm' : m'.wf = true) (h : ∀ k, m.read k = m'.read k) :
    m = m' := by
  induction m generalizing m' with
  | nil =>
    cases m' with
    | nil => rfl
    | cons c m' =>
      obtain ⟨a, b⟩ := c
      obtain ⟨-, hb, -, -⟩ := Memory.wf_cons.1 hm'
      have := h a
      rw [Memory.read_nil, Memory.read_cons, if_pos rfl] at this
      exact absurd this.symm hb
  | cons c m ih =>
    obtain ⟨a, b⟩ := c
    obtain ⟨-, hb, hlt, hwf⟩ := Memory.wf_cons.1 hm
    cases m' with
    | nil =>
      have := h a
      rw [Memory.read_cons, if_pos rfl] at this
      exact absurd this hb
    | cons c' m' =>
      obtain ⟨a', b'⟩ := c'
      obtain ⟨-, hb', hlt', hwf'⟩ := Memory.wf_cons.1 hm'
      have haa : a = a' := by
        rcases Nat.lt_trichotomy a a' with hl | he | hl
        · have := h a
          rw [Memory.read_cons, if_pos rfl, Memory.read_cons, if_neg (by omega),
            Memory.read_of_lt (fun c hc => Nat.lt_trans hl (hlt' c hc))] at this
          exact absurd this hb
        · exact he
        · have := h a'
          rw [Memory.read_cons, if_neg (by omega), Memory.read_cons, if_pos rfl,
            Memory.read_of_lt (fun c hc => Nat.lt_trans hl (hlt c hc))] at this
          exact absurd this.symm hb'
      subst haa
      have hbb : b = b' := by simpa [Memory.read_cons] using h a
      subst hbb
      have : m = m' := by
        refine ih hwf hwf' (fun k => ?_)
        have hk := h k
        rw [Memory.read_cons, Memory.read_cons] at hk
        by_cases hka : k = a
        · subst hka
          rw [Memory.read_of_lt hlt, Memory.read_of_lt hlt']
        · simpa [hka] using hk
      rw [this]

/-! ## On the state -/

/-- Whether an address is ROM depends on the map alone. -/
theorem State.isRom_congr {s t : State} (h : t.rom = s.rom) (a : Word) : t.isRom a = s.isRom a := by
  rw [State.isRom, State.isRom, h]

@[simp] theorem State.isRom_write (s : State) (a b : Word) (v : Byte) : (s.write a v).isRom b = s.isRom b := rfl
@[simp] theorem State.isRom_push8 (s : State) (b : Word) (v : Byte) : (s.push8 v).isRom b = s.isRom b := rfl
@[simp] theorem State.isRom_push16 (s : State) (b v : Word) : (s.push16 v).isRom b = s.isRom b := rfl

/-- A read after a write, on the state: the byte written if the address is RAM, the old byte if it is ROM, and elsewhere
(R60, R64, R68). -/
theorem State.read_write (s : State) (a b : Word) (v : Byte) :
    (s.write a v).read b = if b = a ∧ s.isRom a = false then v else s.read b := by
  simp only [State.read, State.write_mem]
  split
  · rename_i h
    simp [h]
  · rename_i h
    simp [h, Memory.read_write, BitVec.toNat_inj]

/-- A read after a byte placed from outside. -/
theorem State.read_load (s : State) (a b : Word) (v : Byte) : (s.load a v).read b = if b = a then v else s.read b := by
  simp only [State.read, State.load_mem, Memory.read_write, BitVec.toNat_inj]

/-- A write leaves every ROM byte as it was (R68). -/
theorem State.read_write_rom (s : State) (a b : Word) (v : Byte) (hb : s.isRom b = true) :
    (s.write a v).read b = s.read b := by
  rw [State.read_write, if_neg]
  rintro ⟨rfl, h⟩
  simp [hb] at h

/-- A read after a push (R70). -/
theorem State.read_push8 (s : State) (v : Byte) (b : Word) :
    (s.push8 v).read b = if b = stackAddr s.sp ∧ s.isRom (stackAddr s.sp) = false then v else s.read b :=
  State.read_write s _ b v

/-- A read after a two-byte push (R72). -/
theorem State.read_push16 (s : State) (v b : Word) :
    (s.push16 v).read b =
      if b = stackAddr (s.sp - 1) ∧ s.isRom (stackAddr (s.sp - 1)) = false then loByte v
      else if b = stackAddr s.sp ∧ s.isRom (stackAddr s.sp) = false then hiByte v else s.read b := by
  rw [State.push16, State.read_push8, State.read_push8, State.push8_sp, State.isRom_push8]

/-- A write on the state keeps the canonical form. -/
theorem State.write_wf {s : State} (hs : s.mem.wf = true) (a : Word) (v : Byte) : (s.write a v).mem.wf = true := by
  rw [State.write_mem]
  split
  · exact hs
  · exact Memory.write_wf hs a.isLt v

/-- A byte placed from outside keeps the canonical form. -/
theorem State.load_wf {s : State} (hs : s.mem.wf = true) (a : Word) (v : Byte) : (s.load a v).mem.wf = true :=
  Memory.write_wf hs a.isLt v

/-- A push keeps the canonical form. -/
theorem State.push8_wf {s : State} (hs : s.mem.wf = true) (v : Byte) : (s.push8 v).mem.wf = true :=
  State.write_wf hs _ v

/-- A two-byte push keeps the canonical form. -/
theorem State.push16_wf {s : State} (hs : s.mem.wf = true) (v : Word) : (s.push16 v).mem.wf = true :=
  State.push8_wf (State.push8_wf hs _) _

end Sys2Proof.Machine
end

