-- ==== Sys2Proof/Laws/Meanings.lean ====
section
/-! SUPPORT. One lemma per shared operation of the meanings, saying once everything it can do: what it writes, its PC, its memory and
what it leaves unchanged. A proof about an instruction cites these and unfolds no operation. -/

namespace Sys2Proof.Machine

/-! ## Frames -/

theorem KeepsRegs.of_eq {l : List Reg} {s t : State} (ha : Reg.a ∉ l → t.a = s.a) (hx : Reg.x ∉ l → t.x = s.x)
    (hy : Reg.y ∉ l → t.y = s.y) (hs : Reg.s ∉ l → t.sp = s.sp) (hw : Reg.w ∉ l → t.w = s.w)
    (hi : Reg.i ∉ l → t.ireg = s.ireg) : KeepsRegs l s t := by
  intro r hr
  cases r <;> simp_all [State.reg]

theorem KeepsMemory.of_mem_eq {l : List Word} {s t : State} (h : t.mem = s.mem) : KeepsMemory l s t := by
  intro addr _
  rw [State.read, State.read, h]

theorem Frame.refl_of {s t : State} (hr : ∀ r, t.reg r = s.reg r) (hp : t.p = s.p) (hm : t.mem = s.mem)
    (hq : KeepsPlatform s t) : Frame [] [] [] s t :=
  ⟨fun r _ => hr r, fun f _ => by rw [State.flag, State.flag, hp], KeepsMemory.of_mem_eq hm, hq⟩

/-- A frame may be widened. -/
theorem Frame.mono {r r' : List Reg} {f f' : List Flag} {a a' : List Word} {s t : State} (h : Frame r f a s t)
    (hr : ∀ j ∈ r, j ∈ r') (hf : ∀ j ∈ f, j ∈ f') (ha : ∀ j ∈ a, j ∈ a') : Frame r' f' a' s t :=
  ⟨fun j hj => h.1 j (fun hj' => hj (hr j hj')), fun j hj => h.2.1 j (fun hj' => hj (hf j hj')),
    fun j hj => h.2.2.1 j (fun hj' => hj (ha j hj')), h.2.2.2⟩

/-- Frames compose. -/
theorem Frame.trans {r r' : List Reg} {f f' : List Flag} {a a' : List Word} {s t u : State} (h : Frame r f a s t)
    (h' : Frame r' f' a' t u) : Frame (r ++ r') (f ++ f') (a ++ a') s u := by
  refine ⟨fun j hj => ?_, fun j hj => ?_, fun j hj => ?_, ?_⟩
  · rw [List.mem_append, not_or] at hj
    rw [h'.1 j hj.2, h.1 j hj.1]
  · rw [List.mem_append, not_or] at hj
    rw [h'.2.1 j hj.2, h.2.1 j hj.1]
  · rw [List.mem_append, not_or] at hj
    rw [h'.2.2.1 j hj.2, h.2.2.1 j hj.1]
  · exact ⟨h'.2.2.2.1.trans h.2.2.2.1, h'.2.2.2.2.1.trans h.2.2.2.2.1, h'.2.2.2.2.2.1.trans h.2.2.2.2.2.1,
      h'.2.2.2.2.2.2.trans h.2.2.2.2.2.2⟩

theorem FlagsNZ.of_setNZ (s : State) (v : Byte) : FlagsNZ v (s.setNZ v) := by
  refine ⟨?_, ?_⟩
  · simp [BitVec.msb_eq_getLsbD_last]
  · simp [← BitVec.toNat_inj, Bool.beq_eq_decide_eq]

/-- A write: its byte lands where the address is RAM, and nothing but that byte changes (R68). -/
theorem write_spec (s : State) (ea : Word) (v : Byte) : Stored ea v s (s.write ea v) ∧ Frame [] [] [ea] s (s.write ea v) := by
  refine ⟨fun h => by simp [State.read_write, h], fun r _ => by cases r <;> rfl, fun f _ => rfl, ?_, rfl, rfl, rfl, rfl⟩
  intro addr ha
  simp_all [State.read_write]

/-- A byte stored stays stored in a state that reads alike there. -/
theorem Stored.of_read {ea : Word} {v : Byte} {s t u : State} (h : Stored ea v s t) (hu : u.read ea = t.read ea) : Stored ea v s u :=
  fun hr => hu.trans (h hr)

/-- ROM is the same on both sides of a frame. -/
theorem Frame.isRom {r : List Reg} {f : List Flag} {a : List Word} {s t : State} (h : Frame r f a s t) (addr : Word) :
    t.isRom addr = s.isRom addr :=
  State.isRom_congr h.2.2.2.2.2.2 addr

/-! ## Loads, stores, logic -/

/-- LDA, TXA, TYA: A is the value, N and Z follow it. -/
theorem loadA_next {m : Byte} {len : Nat} {s t : State} (h : loadA m len s = .next t) :
    t.a = m ∧ FlagsNZ m t ∧ t.pc = s.pc + BitVec.ofNat 16 len ∧ t.mem = s.mem ∧ Frame [.a] [.n, .z] [] s t := by
  obtain rfl : _ = t := by simpa [loadA] using h
  refine ⟨rfl, FlagsNZ.of_setNZ _ m, rfl, rfl, ?_, ?_, ?_, rfl, rfl, rfl, rfl⟩
  · apply KeepsRegs.of_eq <;> simp
  · intro f hf
    simp_all
  · intro addr _
    simp

/-- AND, ORA, EOR, NEG, LAB: A is the result, N and Z follow it. -/
theorem resultToA_next {m : Byte} {len : Nat} {s t : State} (h : resultToA m len s = .next t) :
    t.a = m ∧ FlagsNZ m t ∧ t.pc = s.pc + BitVec.ofNat 16 len ∧ t.mem = s.mem ∧ Frame [.a] [.n, .z] [] s t := by
  obtain rfl : _ = t := by simpa [resultToA] using h
  refine ⟨rfl, FlagsNZ.of_setNZ _ m, rfl, rfl, ?_, ?_, ?_, rfl, rfl, rfl, rfl⟩
  · apply KeepsRegs.of_eq <;> simp
  · intro f hf
    simp_all
  · intro addr _
    simp

/-- LDX, TAX, TSX: X is the value, N and Z follow it. -/
theorem loadX_next {m : Byte} {len : Nat} {s t : State} (h : loadX m len s = .next t) :
    t.x = m ∧ FlagsNZ m t ∧ t.pc = s.pc + BitVec.ofNat 16 len ∧ t.mem = s.mem ∧ Frame [.x] [.n, .z] [] s t := by
  obtain rfl : _ = t := by simpa [loadX] using h
  refine ⟨rfl, FlagsNZ.of_setNZ _ m, rfl, rfl, ?_, ?_, ?_, rfl, rfl, rfl, rfl⟩
  · apply KeepsRegs.of_eq <;> simp
  · intro f hf
    simp_all
  · intro addr _
    simp

/-- LDY, TAY: Y is the value, N and Z follow it. -/
theorem loadY_next {m : Byte} {len : Nat} {s t : State} (h : loadY m len s = .next t) :
    t.y = m ∧ FlagsNZ m t ∧ t.pc = s.pc + BitVec.ofNat 16 len ∧ t.mem = s.mem ∧ Frame [.y] [.n, .z] [] s t := by
  obtain rfl : _ = t := by simpa [loadY] using h
  refine ⟨rfl, FlagsNZ.of_setNZ _ m, rfl, rfl, ?_, ?_, ?_, rfl, rfl, rfl, rfl⟩
  · apply KeepsRegs.of_eq <;> simp
  · intro f hf
    simp_all
  · intro addr _
    simp

/-- INX, DEX: X is the value, N and Z follow it. -/
theorem updateX_next {m : Byte} {s t : State} (h : updateX m s = .next t) :
    t.x = m ∧ FlagsNZ m t ∧ t.pc = s.pc + BitVec.ofNat 16 1 ∧ t.mem = s.mem ∧ Frame [.x] [.n, .z] [] s t := by
  obtain rfl : _ = t := by simpa [updateX] using h
  refine ⟨rfl, FlagsNZ.of_setNZ _ m, rfl, rfl, ?_, ?_, ?_, rfl, rfl, rfl, rfl⟩
  · apply KeepsRegs.of_eq <;> simp
  · intro f hf
    simp_all
  · intro addr _
    simp

/-- INY, DEY: Y is the value, N and Z follow it. -/
theorem updateY_next {m : Byte} {s t : State} (h : updateY m s = .next t) :
    t.y = m ∧ FlagsNZ m t ∧ t.pc = s.pc + BitVec.ofNat 16 1 ∧ t.mem = s.mem ∧ Frame [.y] [.n, .z] [] s t := by
  obtain rfl : _ = t := by simpa [updateY] using h
  refine ⟨rfl, FlagsNZ.of_setNZ _ m, rfl, rfl, ?_, ?_, ?_, rfl, rfl, rfl, rfl⟩
  · apply KeepsRegs.of_eq <;> simp
  · intro f hf
    simp_all
  · intro addr _
    simp

/-- A store: one byte of memory, nothing else. -/
theorem storeByte_next {ea : Word} {v : Byte} {len : Nat} {s t : State} (h : storeByte ea v len s = .next t) :
    Stored ea v s t ∧ t.pc = s.pc + BitVec.ofNat 16 len ∧ t.mem = (s.write ea v).mem ∧ Frame [] [] [ea] s t := by
  obtain rfl : _ = t := by simpa [storeByte] using h
  refine ⟨(write_spec s ea v).1.of_read rfl, rfl, rfl, ?_, ?_, ?_, rfl, rfl, rfl, rfl⟩
  · apply KeepsRegs.of_eq <;> simp
  · intro f _
    simp
  · intro addr ha
    simp_all [State.read_write]

/-! ## Arithmetic -/

/-- The byte and the four flags of an addition or subtraction. -/
theorem applyAlu_is (s : State) (res : AluResult) : AluIs res (s.applyAlu res) := by
  simp [AluIs, State.applyAlu]

theorem applyAlu_frame (s : State) (res : AluResult) :
    (s.applyAlu res).mem = s.mem ∧ (s.applyAlu res).pc = s.pc ∧ Frame [.a] [.n, .v, .z, .c] [] s (s.applyAlu res) := by
  refine ⟨rfl, rfl, ?_, ?_, KeepsMemory.of_mem_eq rfl, rfl, rfl, rfl, rfl⟩
  · apply KeepsRegs.of_eq <;> simp [State.applyAlu]
  · intro f hf
    simp_all [State.applyAlu]

theorem Frame.advance {r : List Reg} {f : List Flag} {a : List Word} {s t : State} (h : Frame r f a s t) (len : Nat) :
    Frame r f a s (t.advance len) := h

theorem Frame.draw {r : List Reg} {f : List Flag} {a : List Word} {s t : State} (h : Frame r f a s t) (k : Nat) :
    Frame r f a s (t.draw k) := h

theorem applyInvalidBcd_frame (s : State) : Frame [.a] [.n, .v, .z, .c] [] s s.applyInvalidBcd := by
  unfold State.applyInvalidBcd
  exact (applyAlu_frame s _).2.2.draw 4

theorem applyInvalidBcd_v (s : State) : s.applyInvalidBcd.flag .v = false := by
  unfold State.applyInvalidBcd
  exact (applyAlu_is s _).2.2.1

/-- ADC and ADD. -/
theorem addToA_next {cin : Bool} {m : Byte} {len : Nat} {s t : State} (h : addToA cin m len s = .next t) :
    ArithmeticOutcome (addBinary s.a m cin) (addDecimal s.a m cin) m s t ∧ t.pc = s.pc + BitVec.ofNat 16 len ∧ t.mem = s.mem := by
  unfold addToA at h
  split at h
  · rename_i hd
    split at h
    · obtain rfl : _ = t := by simpa using h
      exact ⟨⟨by simp [hd], fun _ _ _ => applyAlu_is s _, fun _ => (applyAlu_is s (addDecimal s.a m cin)).2.2.1,
        (applyAlu_frame s _).2.2⟩, rfl, rfl⟩
    · rename_i hv
      obtain rfl : _ = t := by simpa using h
      refine ⟨⟨by simp [hd], fun _ h1 h2 => absurd (by simp [h1, h2]) hv, fun _ => applyInvalidBcd_v s,
        (applyInvalidBcd_frame s).advance len⟩, rfl, rfl⟩
  · rename_i hd
    obtain rfl : _ = t := by simpa using h
    exact ⟨⟨fun _ => applyAlu_is s _, fun h' => absurd h' hd, fun h' => absurd h' hd, (applyAlu_frame s _).2.2⟩, rfl, rfl⟩

/-- SBC. -/
theorem subFromA_next {m : Byte} {len : Nat} {s t : State} (h : subFromA m len s = .next t) :
    ArithmeticOutcome (subBinary s.a m (s.flag .c)) (subDecimal s.a m (s.flag .c)) m s t ∧
      t.pc = s.pc + BitVec.ofNat 16 len ∧ t.mem = s.mem := by
  unfold subFromA at h
  split at h
  · rename_i hd
    split at h
    · obtain rfl : _ = t := by simpa using h
      exact ⟨⟨by simp [hd], fun _ _ _ => applyAlu_is s _, fun _ => (applyAlu_is s (subDecimal s.a m (s.flag .c))).2.2.1,
        (applyAlu_frame s _).2.2⟩, rfl, rfl⟩
    · rename_i hv
      obtain rfl : _ = t := by simpa using h
      refine ⟨⟨by simp [hd], fun _ h1 h2 => absurd (by simp [h1, h2]) hv, fun _ => applyInvalidBcd_v s,
        (applyInvalidBcd_frame s).advance len⟩, rfl, rfl⟩
  · rename_i hd
    obtain rfl : _ = t := by simpa using h
    exact ⟨⟨fun _ => applyAlu_is s _, fun h' => absurd h' hd, fun h' => absurd h' hd, (applyAlu_frame s _).2.2⟩, rfl, rfl⟩

/-- CMP, CPX, CPY: three flags. -/
theorem compareWith_next {reg m : Byte} {len : Nat} {s t : State} (h : compareWith reg m len s = .next t) :
    t.flag .n = (compareBytes reg m).n ∧ t.flag .z = (compareBytes reg m).z ∧ t.flag .c = (compareBytes reg m).c ∧
      t.pc = s.pc + BitVec.ofNat 16 len ∧ t.mem = s.mem ∧ Frame [] [.n, .z, .c] [] s t := by
  obtain rfl : _ = t := by simpa [compareWith] using h
  refine ⟨by simp, by simp, by simp, rfl, rfl, ?_, ?_, KeepsMemory.of_mem_eq rfl, rfl, rfl, rfl, rfl⟩
  · apply KeepsRegs.of_eq <;> simp
  · intro f hf
    simp_all

/-- BIT: three flags. -/
theorem bitTest_next {m : Byte} {len : Nat} {s t : State} (h : bitTest m len s = .next t) :
    t.flag .n = m.getLsbD 7 ∧ t.flag .v = m.getLsbD 6 ∧ t.flag .z = (s.a &&& m == 0) ∧
      t.pc = s.pc + BitVec.ofNat 16 len ∧ t.mem = s.mem ∧ Frame [] [.n, .v, .z] [] s t := by
  obtain rfl : _ = t := by simpa [bitTest] using h
  refine ⟨by simp, by simp, by simp, rfl, rfl, ?_, ?_, KeepsMemory.of_mem_eq rfl, rfl, rfl, rfl, rfl⟩
  · apply KeepsRegs.of_eq <;> simp
  · intro f hf
    simp_all

/-- INC and DEC: one byte, N and Z from it. -/
theorem updateMem_next {ea : Word} {v : Byte} {len : Nat} {s t : State} (h : updateMem ea v len s = .next t) :
    Stored ea v s t ∧ FlagsNZ v t ∧ t.pc = s.pc + BitVec.ofNat 16 len ∧ t.mem = (s.write ea v).mem ∧
      Frame [] [.n, .z] [ea] s t := by
  obtain rfl : _ = t := by simpa [updateMem] using h
  refine ⟨(write_spec s ea v).1.of_read rfl, FlagsNZ.of_setNZ _ v, rfl, rfl, ?_, ?_, ?_, rfl, rfl, rfl, rfl⟩
  · apply KeepsRegs.of_eq <;> simp
  · intro f hf
    simp_all
  · intro addr ha
    simp_all [State.read_write]

/-! ## Shifts -/

/-- The Accumulator form of a shift. -/
theorem shiftAcc_next {f : Byte → Bool → ShiftResult} {s t : State} (h : shiftAcc f s = .next t) :
    t.a = (f s.a (s.flag .c)).r ∧ t.flag .n = (f s.a (s.flag .c)).n ∧ t.flag .z = (f s.a (s.flag .c)).z ∧
      t.flag .c = (f s.a (s.flag .c)).c ∧ t.pc = s.pc + 1 ∧ t.mem = s.mem ∧ Frame [.a] [.n, .z, .c] [] s t := by
  obtain rfl : _ = t := by simpa [shiftAcc] using h
  refine ⟨rfl, by simp [State.applyShift], by simp [State.applyShift], by simp [State.applyShift], rfl, rfl, ?_, ?_,
    KeepsMemory.of_mem_eq rfl, rfl, rfl, rfl, rfl⟩
  · apply KeepsRegs.of_eq <;> simp [State.applyShift]
  · intro f hf
    simp_all [State.applyShift]

/-- A memory form of a shift. -/
theorem shiftMem_next {f : Byte → Bool → ShiftResult} {ea : Word} {len : Nat} {s t : State} (h : shiftMem f ea len s = .next t) :
    Stored ea (f (s.read ea) (s.flag .c)).r s t ∧ t.flag .n = (f (s.read ea) (s.flag .c)).n ∧
      t.flag .z = (f (s.read ea) (s.flag .c)).z ∧ t.flag .c = (f (s.read ea) (s.flag .c)).c ∧
      t.pc = s.pc + BitVec.ofNat 16 len ∧ t.mem = (s.write ea (f (s.read ea) (s.flag .c)).r).mem ∧
      Frame [] [.n, .z, .c] [ea] s t := by
  obtain rfl : _ = t := by simpa [shiftMem] using h
  refine ⟨(write_spec s ea _).1.of_read rfl, by simp [State.applyShift], by simp [State.applyShift],
    by simp [State.applyShift], rfl, rfl, ?_, ?_, ?_, rfl, rfl, rfl, rfl⟩
  · apply KeepsRegs.of_eq <;> simp [State.applyShift]
  · intro f hf
    simp_all [State.applyShift]
  · intro addr ha
    simp_all [State.applyShift, State.read_write]

/-! ## Bits, branches, calls -/

/-- Clearing masked bits. -/
theorem clearBits_spec (s : State) (ea : Word) (mask : Byte) :
    Stored ea (s.read ea &&& ~~~mask) s (s.clearBits ea mask) ∧ Frame [] [] [ea] s (s.clearBits ea mask) :=
  write_spec s ea _

/-- Setting masked bits. -/
theorem setBits_spec (s : State) (ea : Word) (mask : Byte) :
    Stored ea (s.read ea ||| mask) s (s.setBits ea mask) ∧ Frame [] [] [ea] s (s.setBits ea mask) :=
  write_spec s ea _

/-- Leaving A unspecified: nothing but A changes. -/
theorem clobberA_spec (s : State) : Frame [.a] [] [] s s.clobberA := by
  refine ⟨?_, fun f _ => rfl, KeepsMemory.of_mem_eq rfl, rfl, rfl, rfl, rfl⟩
  apply KeepsRegs.of_eq <;> simp [State.clobberA]

/-- A branch: only PC. -/
theorem branchIf_next {taken : Bool} {len : Nat} {r : Byte} {s t : State} (h : branchIf taken len r s = .next t) :
    t.pc = (if taken then s.pc + BitVec.ofNat 16 len + r.signExtend 16 else s.pc + BitVec.ofNat 16 len) ∧
      t.mem = s.mem ∧ Frame [] [] [] s t := by
  obtain rfl : _ = t := by simpa [branchIf] using h
  exact ⟨rfl, rfl, fun _ _ => rfl, fun _ _ => rfl, fun _ _ => rfl, rfl, rfl, rfl, rfl⟩

/-! ## The stack and exceptions -/

/-- One byte pushed. -/
theorem push8_spec (s : State) (v : Byte) :
    Stored (stackAddr s.sp) v s (s.push8 v) ∧ (s.push8 v).sp = s.sp - 1 ∧ Frame [.s] [] [stackAddr s.sp] s (s.push8 v) := by
  refine ⟨(write_spec s _ v).1.of_read rfl, rfl, ?_, fun f _ => rfl, ?_, rfl, rfl, rfl, rfl⟩
  · apply KeepsRegs.of_eq <;> simp
  · intro addr ha
    simp_all [State.read_push8]

/-- A byte stored before a push elsewhere stays stored. -/
theorem Stored.push8 {ea : Word} {v w : Byte} {s t : State} (h : Stored ea v s t) (hne : ea ≠ stackAddr t.sp) :
    Stored ea v s (t.push8 w) :=
  h.of_read ((push8_spec t w).2.2.2.2.1 ea (by simpa using hne))

/-- A byte pushed after an operation that keeps the map. -/
theorem Stored.of_frame {r : List Reg} {f : List Flag} {a : List Word} {ea : Word} {v : Byte} {s t u : State}
    (h : Stored ea v t u) (hf : Frame r f a s t) : Stored ea v s u :=
  fun hr => h ((hf.isRom ea).trans hr)

/-- Two bytes pushed, the high byte first. -/
theorem push16_spec (s : State) (v : Word) :
    Stored (stackAddr s.sp) (hiByte v) s (s.push16 v) ∧ Stored (stackAddr (s.sp - 1)) (loByte v) s (s.push16 v) ∧
      (s.push16 v).sp = s.sp - 2 ∧ Frame [.s] [] [stackAddr s.sp, stackAddr (s.sp - 1)] s (s.push16 v) := by
  have h01 : stackAddr s.sp ≠ stackAddr (s.sp - 1) := by
    rw [Ne, stackAddr_inj]
    bv_omega
  obtain ⟨a, -, hf⟩ := push8_spec s (hiByte v)
  obtain ⟨b, -, hf'⟩ := push8_spec (s.push8 (hiByte v)) (loByte v)
  exact ⟨a.push8 h01, b.of_frame hf, by simp, (hf.trans hf').mono (by simp) (by simp) (fun j hj => by simpa using hj)⟩

/-- Three bytes pushed. -/
theorem push8_push8_push8_spec (s : State) (u v w : Byte) : let t := ((s.push8 u).push8 v).push8 w
    Stored (stackAddr s.sp) u s t ∧ Stored (stackAddr (s.sp - 1)) v s t ∧ Stored (stackAddr (s.sp - 2)) w s t ∧ t.sp = s.sp - 3 ∧
    Frame [.s] [] [stackAddr s.sp, stackAddr (s.sp - 1), stackAddr (s.sp - 2)] s t := by
  intro t
  have h2 : s.sp - 1 - 1 = s.sp - 2 := by bv_omega
  obtain ⟨a, -, ha⟩ := push8_spec s u
  obtain ⟨b, -, hb⟩ := push8_spec (s.push8 u) v
  obtain ⟨c, -, hc⟩ := push8_spec ((s.push8 u).push8 v) w
  simp only [State.push8_sp, h2] at b hb c hc
  have hab := ha.trans hb
  refine ⟨(a.push8 ?_).push8 ?_, (b.of_frame ha).push8 ?_, c.of_frame hab, by simp [t],
    (hab.trans hc).mono (by simp) (by simp) (fun j hj => by simpa using hj)⟩ <;>
  · simp only [State.push8_sp, Ne, stackAddr_inj]
    bv_omega

/-- A frame that may change S does not, when S is what it was. -/
theorem Frame.of_sp {r : List Reg} {f : List Flag} {a : List Word} {s t : State} (h : Frame (.s :: r) f a s t)
    (hs : t.sp = s.sp) : Frame r f a s t := by
  refine ⟨fun j hj => ?_, h.2⟩
  by_cases hjs : j = .s
  · subst hjs
    simp [State.reg, hs]
  · exact h.1 j (by simp [hjs, hj])

/-- The byte and the word a pull returns. -/
theorem top16_eq (s : State) : s.top16 = joinBytes (s.read (stackAddr (s.sp + 2))) (s.read (stackAddr (s.sp + 1))) := by
  simp [State.top16, State.top8, State.pop8]

theorem pop16_sp (s : State) : s.pop16.sp = s.sp + 2 := by simp

/-- A two-byte pull undoes a two-byte push on a stack in RAM. -/
theorem pull16_push16 (s : State) (v : Word) (h0 : s.isRom (stackAddr s.sp) = false) (hb : s.isRom (stackAddr (s.sp - 1)) = false) :
    (s.push16 v).top16 = v ∧ (s.push16 v).pop16.sp = s.sp := by
  obtain ⟨a, b, c, -⟩ := push16_spec s v
  have h1 : s.sp - 2 + 2 = s.sp := by bv_omega
  have h2 : s.sp - 2 + 1 = s.sp - 1 := by bv_omega
  constructor
  · rw [top16_eq, c, h1, h2, a h0, b hb, joinBytes_hiByte_loByte]
  · rw [pop16_sp, c, h1]

/-- A pull moves S and nothing else. -/
theorem pop8_frame (s : State) : Frame [.s] [] [] s s.pop8 := by
  refine ⟨?_, fun f _ => rfl, KeepsMemory.of_mem_eq rfl, rfl, rfl, rfl, rfl⟩
  apply KeepsRegs.of_eq <;> simp

/-- A two-byte pull moves S and nothing else. -/
theorem pop16_frame (s : State) : Frame [.s] [] [] s s.pop16 := by
  refine ⟨?_, fun f _ => rfl, KeepsMemory.of_mem_eq rfl, rfl, rfl, rfl, rfl⟩
  apply KeepsRegs.of_eq <;> simp

/-- Taking an exception: three pushes, I (and B for a break), PC from the vector; nothing else. -/
theorem takeException_spec (s : State) (ret : Word) (image : Byte) (isBreak : Bool) (vector : Word) :
    let t := s.takeException ret image isBreak vector
    Stored (stackAddr s.sp) (hiByte ret) s t ∧ Stored (stackAddr (s.sp - 1)) (loByte ret) s t ∧
    Stored (stackAddr (s.sp - 2)) image s t ∧
    t.sp = s.sp - 3 ∧ t.flag .i = true ∧ t.flag .b = (isBreak || s.flag .b) ∧
    t.pc = joinBytes (t.read (vector + 1)) (t.read vector) ∧
    Frame [.s] [.b, .i] [stackAddr s.sp, stackAddr (s.sp - 1), stackAddr (s.sp - 2)] s t ∧
    (isBreak = false → Frame [.s] [.i] [stackAddr s.sp, stackAddr (s.sp - 1), stackAddr (s.sp - 2)] s t) := by
  intro t
  obtain ⟨h0, h1, hsp, hf⟩ := push16_spec s ret
  obtain ⟨h2, -, hf'⟩ := push8_spec (s.push16 ret) image
  have hread : ∀ b, t.read b = ((s.push16 ret).push8 image).read b := by
    intro b
    cases isBreak <;> simp [t, State.takeException]
  rw [hsp] at h2 hf'
  have hregs : ∀ r, r ≠ Reg.s → t.reg r = s.reg r := by
    intro r hr
    cases r with
    | s => exact absurd rfl hr
    | _ => cases isBreak <;> simp [t, State.takeException, State.reg]
  have hflag : ∀ f, t.flag f = if f = .i then true else if f = .b then (isBreak || s.flag .b) else s.flag f := by
    intro f
    have hp : ∀ g, ((s.push16 ret).push8 image).flag g = s.flag g := fun g => rfl
    cases isBreak with
    | true =>
      have : t.flag f = (((((s.push16 ret).push8 image).setFlag .b true).setFlag .i true)).flag f := rfl
      rw [this, State.flag_setFlag, State.flag_setFlag, hp, Bool.true_or]
    | false =>
      have : t.flag f = ((((s.push16 ret).push8 image).setFlag .i true)).flag f := rfl
      rw [this, State.flag_setFlag, hp, Bool.false_or]
      by_cases h : f = .b <;> simp [h]
  have hmem : KeepsMemory [stackAddr s.sp, stackAddr (s.sp - 1), stackAddr (s.sp - 2)] s t := by
    intro addr ha
    simp only [List.mem_cons, List.not_mem_nil, not_or, or_false] at ha
    rw [hread]
    exact (hf.trans hf').2.2.1 addr (by simpa using ha)
  have hreq : KeepsPlatform s t := by
    cases isBreak <;> simp [t, State.takeException, KeepsPlatform]
  have h02 : stackAddr s.sp ≠ stackAddr (s.push16 ret).sp := by
    rw [hsp, Ne, stackAddr_inj]
    bv_omega
  have h12 : stackAddr (s.sp - 1) ≠ stackAddr (s.push16 ret).sp := by
    rw [hsp, Ne, stackAddr_inj]
    bv_omega
  refine ⟨(h0.push8 h02).of_read (hread _), (h1.push8 h12).of_read (hread _), (h2.of_frame hf).of_read (hread _), ?_, ?_, ?_, ?_,
    ⟨?_, ?_, hmem, hreq⟩, fun hb => ⟨?_, ?_, hmem, hreq⟩⟩
  · have : t.sp = (s.push16 ret).sp - 1 := by cases isBreak <;> simp [t, State.takeException]
    simp [this]
  · simp [hflag]
  · simp [hflag]
  · cases isBreak <;> simp [t, State.takeException, State.readWord]
  · intro r hr
    exact hregs r (by simpa using hr)
  · intro f hf
    rw [hflag]
    simp_all
  · intro r hr
    exact hregs r (by simpa using hr)
  · intro f hf
    rw [hflag, hb]
    simp_all

/-- The return from an exception: six flags, PC and S; nothing else. -/
theorem returnFromException_spec (s : State) : let t := s.returnFromException
    t.p = restoredP s.p (s.read (stackAddr (s.sp + 1))) ∧
    t.pc = joinBytes (s.read (stackAddr (s.sp + 3))) (s.read (stackAddr (s.sp + 2))) ∧ t.sp = s.sp + 3 ∧ t.mem = s.mem ∧
    Frame [.s] [.n, .v, .d, .i, .z, .c] [] s t := by
  intro t
  refine ⟨rfl, ?_, ?_, rfl, ?_, ?_, KeepsMemory.of_mem_eq rfl, rfl, rfl, rfl, rfl⟩
  · have : t.pc = joinBytes (s.read (stackAddr (s.sp + 1 + 1 + 1))) (s.read (stackAddr (s.sp + 1 + 1))) := rfl
    simp [this]
  · have : t.sp = s.sp + 1 + 1 + 1 := rfl
    simp [this]
  · intro r hr
    cases r with
    | s => simp at hr
    | _ => rfl
  · intro f hf
    have : t.flag f = flagOf (restoredP s.p s.top8) f := rfl
    rw [this, flagOf_restoredP]
    cases f <;> simp_all [State.flag]

/-- The start sequence: PC from the reset vector, D and I of P; memory, the map and the other requests unchanged; the draws advance. -/
theorem startSequence_spec (s : State) : let t := s.startSequence
    t.pc = s.readWord resetVector ∧ t.flag .d = false ∧ t.flag .i = resetPI ∧ t.mem = s.mem ∧ t.rom = s.rom ∧ t.resetRequest = false ∧
    t.nmiRequest = s.nmiRequest ∧ t.irqRequests = s.irqRequests ∧ t.draws = s.draws + 9 := by
  refine ⟨rfl, ?_, ?_, rfl, rfl, rfl, rfl, rfl, rfl⟩
  · show flagOf (resetP _) .d = _
    rw [resetP, flagOf_withFlag, flagOf_withFlag]
    rfl
  · show flagOf (resetP _) .i = _
    rw [resetP, flagOf_withFlag]
    rfl

/-- A JSB: two pushes, PC from its vector; nothing else. -/
theorem callVector_next {n : Nat} {s t : State} (h : callVector n s = .next t) :
    t = ((s.push16 (s.pc + 1)).setPc ((s.push16 (s.pc + 1)).readWord (jsbVector n))) := by
  obtain rfl : _ = t := by simpa [callVector] using h
  rfl

/-! ## The boundary -/

/-- The pending source of highest priority is the one with the lowest number. -/
theorem highestPriority_spec {l : List Nat} (hl : l ≠ []) : ∃ m ∈ l, highestPriority l = some m ∧ ∀ o ∈ l, m ≤ o := by
  induction l with
  | nil => exact absurd rfl hl
  | cons a l ih =>
    cases l with
    | nil => exact ⟨a, by simp, rfl, by simp⟩
    | cons b l =>
      obtain ⟨m, hm, he, hmin⟩ := ih (by simp)
      rw [highestPriority, he]
      refine ⟨if m < a then m else a, ?_, rfl, fun o ho => ?_⟩
      · split <;> simp_all
      · rcases List.mem_cons.1 ho with rfl | ho
        · split <;> omega
        · have := hmin o ho
          split <;> omega

/-- The four things that can happen at a boundary. -/
theorem acceptedEvent_cases (s : State) :
    (s.resetRequest = true ∧ s.acceptedEvent = some s.startSequence) ∨
    (s.resetRequest = false ∧ s.nmiRequest = true ∧
      s.acceptedEvent = some ((s.setNmiRequest false).interruptEntry nmiVector)) ∨
    (s.resetRequest = false ∧ s.nmiRequest = false ∧ s.flag .i = false ∧ ∃ src ∈ s.irqRequests,
      s.acceptedEvent = some (s.interruptEntry (Config.irqVector src))) ∨
    (s.resetRequest = false ∧ s.nmiRequest = false ∧ s.acceptedEvent = none) := by
  unfold State.acceptedEvent
  cases hr : s.resetRequest
  · cases hn : s.nmiRequest
    · cases hi : s.flag .i
      · by_cases hl : s.irqRequests = []
        · simp [hl, highestPriority]
        · obtain ⟨m, hm, he, -⟩ := highestPriority_spec hl
          rw [he]
          exact .inr (.inr (.inl ⟨rfl, rfl, rfl, m, hm, rfl⟩))
      · simp
    · simp
  · simp

/-- A step that goes on is an accepted event or one instruction. -/
theorem step_next {s t : State} (h : step s = .next t) :
    s.acceptedEvent = some t ∨ (s.acceptedEvent = none ∧ ∃ i, s.fetchInstr = .ok i ∧ exec i s = .next t) := by
  unfold step at h
  split at h
  · rename_i u hu
    injection h with h
    subst h
    exact .inl hu
  · rename_i hu
    split at h
    · rename_i i hi
      exact .inr ⟨hu, i, hi, h⟩
    · cases h

/-! ## The canonical form -/

theorem takeException_wf {s : State} (hs : s.mem.wf = true) (ret : Word) (image : Byte) (isBreak : Bool) (vector : Word) :
    (s.takeException ret image isBreak vector).mem.wf = true := by
  have := State.push8_wf (State.push16_wf hs ret) image
  cases isBreak <;> simpa [State.takeException] using this

/-- Bus writes leave the map and every byte of ROM as they were (R68). -/
theorem applyWrites_rom (s : State) (l : List BusAccess) :
    (applyWrites s l).rom = s.rom ∧ ∀ addr, s.isRom addr = true → (applyWrites s l).read addr = s.read addr := by
  induction l generalizing s with
  | nil => exact ⟨rfl, fun _ _ => rfl⟩
  | cons c l ih =>
    cases c with
    | read _ => exact ih s
    | ignored _ => exact ih s
    | write a v => exact ⟨(ih _).1, fun b hb => ((ih (s.write a v)).2 b hb).trans (State.read_write_rom s a b v hb)⟩

theorem applyWrites_wf {s : State} (hs : s.mem.wf = true) (l : List BusAccess) : (applyWrites s l).mem.wf = true := by
  induction l generalizing s with
  | nil => exact hs
  | cons c l ih =>
    cases c with
    | read _ => exact ih hs
    | ignored _ => exact ih hs
    | write a v => exact ih (State.write_wf hs a v)

end Sys2Proof.Machine
end

