-- ==== Sys2Proof/Laws/PerInstr.lean ====
section
/-! SUPPORT. What holds of every instruction as syntax, one lemma per constructor (LAWS.json): its encoding is well-formed code,
that is, a defined operation code with as many operand bytes as the opcode map says (R101, R108, R111). -/

/-- The encoding of the instruction is exactly one well-formed instruction. -/
def Sys2Proof.Laws.EncodedWellFormed.Statement (i : Sys2Proof.Instr) : Prop :=
  Sys2Proof.wellFormedCode (Sys2Proof.encode i) = true

namespace Sys2Proof.Laws.EncodedWellFormed

theorem ldaInd (n : Byte) : Statement (.ldaInd n) := rfl
theorem ldaZp (n : Byte) : Statement (.ldaZp n) := rfl
theorem ldaImm (n : Byte) : Statement (.ldaImm n) := rfl
theorem ldaAbs (nn : Word) : Statement (.ldaAbs nn) := rfl
theorem ldaIndX (n : Byte) : Statement (.ldaIndX n) := rfl
theorem ldaZpX (n : Byte) : Statement (.ldaZpX n) := rfl
theorem ldaAbsY (nn : Word) : Statement (.ldaAbsY nn) := rfl
theorem ldaAbsX (nn : Word) : Statement (.ldaAbsX nn) := rfl
theorem ldxImm (n : Byte) : Statement (.ldxImm n) := rfl
theorem ldxZp (n : Byte) : Statement (.ldxZp n) := rfl
theorem ldxAbs (nn : Word) : Statement (.ldxAbs nn) := rfl
theorem ldxZpY (n : Byte) : Statement (.ldxZpY n) := rfl
theorem ldxAbsY (nn : Word) : Statement (.ldxAbsY nn) := rfl
theorem ldyImm (n : Byte) : Statement (.ldyImm n) := rfl
theorem ldyZp (n : Byte) : Statement (.ldyZp n) := rfl
theorem ldyAbs (nn : Word) : Statement (.ldyAbs nn) := rfl
theorem ldyZpX (n : Byte) : Statement (.ldyZpX n) := rfl
theorem ldyAbsX (nn : Word) : Statement (.ldyAbsX nn) := rfl
theorem staInd (n : Byte) : Statement (.staInd n) := rfl
theorem staZp (n : Byte) : Statement (.staZp n) := rfl
theorem staAbs (nn : Word) : Statement (.staAbs nn) := rfl
theorem staIndX (n : Byte) : Statement (.staIndX n) := rfl
theorem staZpX (n : Byte) : Statement (.staZpX n) := rfl
theorem staAbsY (nn : Word) : Statement (.staAbsY nn) := rfl
theorem staAbsX (nn : Word) : Statement (.staAbsX nn) := rfl
theorem stxZp (n : Byte) : Statement (.stxZp n) := rfl
theorem stxAbs (nn : Word) : Statement (.stxAbs nn) := rfl
theorem stxZpY (n : Byte) : Statement (.stxZpY n) := rfl
theorem styZp (n : Byte) : Statement (.styZp n) := rfl
theorem styAbs (nn : Word) : Statement (.styAbs nn) := rfl
theorem styZpX (n : Byte) : Statement (.styZpX n) := rfl
theorem sti (data : Byte) (n : Byte) : Statement (.sti data n) := rfl
theorem tax : Statement (.tax) := rfl
theorem tay : Statement (.tay) := rfl
theorem txa : Statement (.txa) := rfl
theorem tya : Statement (.tya) := rfl
theorem tsx : Statement (.tsx) := rfl
theorem txs : Statement (.txs) := rfl
theorem exc (n : Byte) : Statement (.exc n) := rfl
theorem adcInd (n : Byte) : Statement (.adcInd n) := rfl
theorem adcZp (n : Byte) : Statement (.adcZp n) := rfl
theorem adcImm (n : Byte) : Statement (.adcImm n) := rfl
theorem adcAbs (nn : Word) : Statement (.adcAbs nn) := rfl
theorem adcIndX (n : Byte) : Statement (.adcIndX n) := rfl
theorem adcZpX (n : Byte) : Statement (.adcZpX n) := rfl
theorem adcAbsY (nn : Word) : Statement (.adcAbsY nn) := rfl
theorem adcAbsX (nn : Word) : Statement (.adcAbsX nn) := rfl
theorem addZp (n : Byte) : Statement (.addZp n) := rfl
theorem addZpX (n : Byte) : Statement (.addZpX n) := rfl
theorem addImm (n : Byte) : Statement (.addImm n) := rfl
theorem sbcInd (n : Byte) : Statement (.sbcInd n) := rfl
theorem sbcZp (n : Byte) : Statement (.sbcZp n) := rfl
theorem sbcImm (n : Byte) : Statement (.sbcImm n) := rfl
theorem sbcAbs (nn : Word) : Statement (.sbcAbs nn) := rfl
theorem sbcIndX (n : Byte) : Statement (.sbcIndX n) := rfl
theorem sbcZpX (n : Byte) : Statement (.sbcZpX n) := rfl
theorem sbcAbsY (nn : Word) : Statement (.sbcAbsY nn) := rfl
theorem sbcAbsX (nn : Word) : Statement (.sbcAbsX nn) := rfl
theorem andInd (n : Byte) : Statement (.andInd n) := rfl
theorem andZp (n : Byte) : Statement (.andZp n) := rfl
theorem andImm (n : Byte) : Statement (.andImm n) := rfl
theorem andAbs (nn : Word) : Statement (.andAbs nn) := rfl
theorem andIndX (n : Byte) : Statement (.andIndX n) := rfl
theorem andZpX (n : Byte) : Statement (.andZpX n) := rfl
theorem andAbsY (nn : Word) : Statement (.andAbsY nn) := rfl
theorem andAbsX (nn : Word) : Statement (.andAbsX nn) := rfl
theorem oraInd (n : Byte) : Statement (.oraInd n) := rfl
theorem oraZp (n : Byte) : Statement (.oraZp n) := rfl
theorem oraImm (n : Byte) : Statement (.oraImm n) := rfl
theorem oraAbs (nn : Word) : Statement (.oraAbs nn) := rfl
theorem oraIndX (n : Byte) : Statement (.oraIndX n) := rfl
theorem oraZpX (n : Byte) : Statement (.oraZpX n) := rfl
theorem oraAbsY (nn : Word) : Statement (.oraAbsY nn) := rfl
theorem oraAbsX (nn : Word) : Statement (.oraAbsX nn) := rfl
theorem eorInd (n : Byte) : Statement (.eorInd n) := rfl
theorem eorZp (n : Byte) : Statement (.eorZp n) := rfl
theorem eorImm (n : Byte) : Statement (.eorImm n) := rfl
theorem eorAbs (nn : Word) : Statement (.eorAbs nn) := rfl
theorem eorIndX (n : Byte) : Statement (.eorIndX n) := rfl
theorem eorZpX (n : Byte) : Statement (.eorZpX n) := rfl
theorem eorAbsY (nn : Word) : Statement (.eorAbsY nn) := rfl
theorem eorAbsX (nn : Word) : Statement (.eorAbsX nn) := rfl
theorem cmpInd (n : Byte) : Statement (.cmpInd n) := rfl
theorem cmpZp (n : Byte) : Statement (.cmpZp n) := rfl
theorem cmpImm (n : Byte) : Statement (.cmpImm n) := rfl
theorem cmpAbs (nn : Word) : Statement (.cmpAbs nn) := rfl
theorem cmpIndX (n : Byte) : Statement (.cmpIndX n) := rfl
theorem cmpZpX (n : Byte) : Statement (.cmpZpX n) := rfl
theorem cmpAbsY (nn : Word) : Statement (.cmpAbsY nn) := rfl
theorem cmpAbsX (nn : Word) : Statement (.cmpAbsX nn) := rfl
theorem cpxImm (n : Byte) : Statement (.cpxImm n) := rfl
theorem cpxZp (n : Byte) : Statement (.cpxZp n) := rfl
theorem cpxAbs (nn : Word) : Statement (.cpxAbs nn) := rfl
theorem cpyImm (n : Byte) : Statement (.cpyImm n) := rfl
theorem cpyZp (n : Byte) : Statement (.cpyZp n) := rfl
theorem cpyAbs (nn : Word) : Statement (.cpyAbs nn) := rfl
theorem bitZp (n : Byte) : Statement (.bitZp n) := rfl
theorem bitAbs (nn : Word) : Statement (.bitAbs nn) := rfl
theorem incZp (n : Byte) : Statement (.incZp n) := rfl
theorem incAbs (nn : Word) : Statement (.incAbs nn) := rfl
theorem incZpX (n : Byte) : Statement (.incZpX n) := rfl
theorem incAbsX (nn : Word) : Statement (.incAbsX nn) := rfl
theorem decZp (n : Byte) : Statement (.decZp n) := rfl
theorem decAbs (nn : Word) : Statement (.decAbs nn) := rfl
theorem decZpX (n : Byte) : Statement (.decZpX n) := rfl
theorem decAbsX (nn : Word) : Statement (.decAbsX nn) := rfl
theorem inx : Statement (.inx) := rfl
theorem iny : Statement (.iny) := rfl
theorem dex : Statement (.dex) := rfl
theorem dey : Statement (.dey) := rfl
theorem neg : Statement (.neg) := rfl
theorem lab : Statement (.lab) := rfl
theorem aslZp (n : Byte) : Statement (.aslZp n) := rfl
theorem aslAcc : Statement (.aslAcc) := rfl
theorem aslAbs (nn : Word) : Statement (.aslAbs nn) := rfl
theorem aslZpX (n : Byte) : Statement (.aslZpX n) := rfl
theorem aslAbsX (nn : Word) : Statement (.aslAbsX nn) := rfl
theorem lsrZp (n : Byte) : Statement (.lsrZp n) := rfl
theorem lsrAcc : Statement (.lsrAcc) := rfl
theorem lsrAbs (nn : Word) : Statement (.lsrAbs nn) := rfl
theorem lsrZpX (n : Byte) : Statement (.lsrZpX n) := rfl
theorem lsrAbsX (nn : Word) : Statement (.lsrAbsX nn) := rfl
theorem rolZp (n : Byte) : Statement (.rolZp n) := rfl
theorem rolAcc : Statement (.rolAcc) := rfl
theorem rolAbs (nn : Word) : Statement (.rolAbs nn) := rfl
theorem rolZpX (n : Byte) : Statement (.rolZpX n) := rfl
theorem rolAbsX (nn : Word) : Statement (.rolAbsX nn) := rfl
theorem rorZp (n : Byte) : Statement (.rorZp n) := rfl
theorem rorAcc : Statement (.rorAcc) := rfl
theorem rorAbs (nn : Word) : Statement (.rorAbs nn) := rfl
theorem rorZpX (n : Byte) : Statement (.rorZpX n) := rfl
theorem rorAbsX (nn : Word) : Statement (.rorAbsX nn) := rfl
theorem asr : Statement (.asr) := rfl
theorem mpy : Statement (.mpy) := rfl
theorem mpa : Statement (.mpa) := rfl
theorem rnd : Statement (.rnd) := rfl
theorem clw : Statement (.clw) := rfl
theorem taw : Statement (.taw) := rfl
theorem twa : Statement (.twa) := rfl
theorem phw : Statement (.phw) := rfl
theorem plw : Statement (.plw) := rfl
theorem bcc (r : Byte) : Statement (.bcc r) := rfl
theorem bcs (r : Byte) : Statement (.bcs r) := rfl
theorem beq (r : Byte) : Statement (.beq r) := rfl
theorem bne (r : Byte) : Statement (.bne r) := rfl
theorem bmi (r : Byte) : Statement (.bmi r) := rfl
theorem bpl (r : Byte) : Statement (.bpl r) := rfl
theorem bvc (r : Byte) : Statement (.bvc r) := rfl
theorem bvs (r : Byte) : Statement (.bvs r) := rfl
theorem bra (r : Byte) : Statement (.bra r) := rfl
theorem jmpAbs (nn : Word) : Statement (.jmpAbs nn) := rfl
theorem jmpInd (nn : Word) : Statement (.jmpInd nn) := rfl
theorem jmpIndX (nn : Word) : Statement (.jmpIndX nn) := rfl
theorem jsr (nn : Word) : Statement (.jsr nn) := rfl
theorem jsb0 : Statement (.jsb0) := rfl
theorem jsb1 : Statement (.jsb1) := rfl
theorem jsb2 : Statement (.jsb2) := rfl
theorem jsb3 : Statement (.jsb3) := rfl
theorem jsb4 : Statement (.jsb4) := rfl
theorem jsb5 : Statement (.jsb5) := rfl
theorem jsb6 : Statement (.jsb6) := rfl
theorem jsb7 : Statement (.jsb7) := rfl
theorem rts : Statement (.rts) := rfl
theorem rmb0 (n : Byte) : Statement (.rmb0 n) := rfl
theorem rmb1 (n : Byte) : Statement (.rmb1 n) := rfl
theorem rmb2 (n : Byte) : Statement (.rmb2 n) := rfl
theorem rmb3 (n : Byte) : Statement (.rmb3 n) := rfl
theorem rmb4 (n : Byte) : Statement (.rmb4 n) := rfl
theorem rmb5 (n : Byte) : Statement (.rmb5 n) := rfl
theorem rmb6 (n : Byte) : Statement (.rmb6 n) := rfl
theorem rmb7 (n : Byte) : Statement (.rmb7 n) := rfl
theorem smb0 (n : Byte) : Statement (.smb0 n) := rfl
theorem smb1 (n : Byte) : Statement (.smb1 n) := rfl
theorem smb2 (n : Byte) : Statement (.smb2 n) := rfl
theorem smb3 (n : Byte) : Statement (.smb3 n) := rfl
theorem smb4 (n : Byte) : Statement (.smb4 n) := rfl
theorem smb5 (n : Byte) : Statement (.smb5 n) := rfl
theorem smb6 (n : Byte) : Statement (.smb6 n) := rfl
theorem smb7 (n : Byte) : Statement (.smb7 n) := rfl
theorem rba (mask : Byte) (nn : Word) : Statement (.rba mask nn) := rfl
theorem sba (mask : Byte) (nn : Word) : Statement (.sba mask nn) := rfl
theorem bbr0 (n : Byte) (r : Byte) : Statement (.bbr0 n r) := rfl
theorem bbr1 (n : Byte) (r : Byte) : Statement (.bbr1 n r) := rfl
theorem bbr2 (n : Byte) (r : Byte) : Statement (.bbr2 n r) := rfl
theorem bbr3 (n : Byte) (r : Byte) : Statement (.bbr3 n r) := rfl
theorem bbr4 (n : Byte) (r : Byte) : Statement (.bbr4 n r) := rfl
theorem bbr5 (n : Byte) (r : Byte) : Statement (.bbr5 n r) := rfl
theorem bbr6 (n : Byte) (r : Byte) : Statement (.bbr6 n r) := rfl
theorem bbr7 (n : Byte) (r : Byte) : Statement (.bbr7 n r) := rfl
theorem bbs0 (n : Byte) (r : Byte) : Statement (.bbs0 n r) := rfl
theorem bbs1 (n : Byte) (r : Byte) : Statement (.bbs1 n r) := rfl
theorem bbs2 (n : Byte) (r : Byte) : Statement (.bbs2 n r) := rfl
theorem bbs3 (n : Byte) (r : Byte) : Statement (.bbs3 n r) := rfl
theorem bbs4 (n : Byte) (r : Byte) : Statement (.bbs4 n r) := rfl
theorem bbs5 (n : Byte) (r : Byte) : Statement (.bbs5 n r) := rfl
theorem bbs6 (n : Byte) (r : Byte) : Statement (.bbs6 n r) := rfl
theorem bbs7 (n : Byte) (r : Byte) : Statement (.bbs7 n r) := rfl
theorem bar (nn : Word) (mask : Byte) (r : Byte) : Statement (.bar nn mask r) := rfl
theorem bas (nn : Word) (mask : Byte) (r : Byte) : Statement (.bas nn mask r) := rfl
theorem pha : Statement (.pha) := rfl
theorem php : Statement (.php) := rfl
theorem phx : Statement (.phx) := rfl
theorem phy : Statement (.phy) := rfl
theorem psh : Statement (.psh) := rfl
theorem pla : Statement (.pla) := rfl
theorem plp : Statement (.plp) := rfl
theorem plx : Statement (.plx) := rfl
theorem ply : Statement (.ply) := rfl
theorem pul : Statement (.pul) := rfl
theorem nxt : Statement (.nxt) := rfl
theorem lii : Statement (.lii) := rfl
theorem lai : Statement (.lai) := rfl
theorem lan : Statement (.lan) := rfl
theorem ini : Statement (.ini) := rfl
theorem phi : Statement (.phi) := rfl
theorem pli : Statement (.pli) := rfl
theorem jpi (nn : Word) : Statement (.jpi nn) := rfl
theorem tip : Statement (.tip) := rfl
theorem pia : Statement (.pia) := rfl
theorem clc : Statement (.clc) := rfl
theorem sec : Statement (.sec) := rfl
theorem cld : Statement (.cld) := rfl
theorem sed : Statement (.sed) := rfl
theorem cli : Statement (.cli) := rfl
theorem sei : Statement (.sei) := rfl
theorem clv : Statement (.clv) := rfl
theorem nop : Statement (.nop) := rfl
theorem brk : Statement (.brk) := rfl
theorem rti : Statement (.rti) := rfl

end Sys2Proof.Laws.EncodedWellFormed
end

