-- ==== Sys2Proof/Tests/Slice0.lean ====
section
/-! SUPPORT. The model's own tests: ill-formed code refused, every operation code decoded, one step per test with the expected
result taken from 95_test_vectors.md (the vector's number is in the name) or from a rule's Example, and for every obligation
with hypotheses a concrete state and operands that meet them. -/

namespace Sys2Proof.Tests

open Sys2Proof.Machine

/-! ## Helpers -/

/-- Every register, memory and request zero or empty. -/
def zeros : State := { State.reset with p := 0x00 }

/-- Bytes stored at an address. -/
def cell (s : State) (c : Word × List Byte) : State := s.storeBytes c.1 c.2

/-- The instruction's bytes at `pc`, PC there, and the listed bytes of memory. -/
def place (pc : Word) (code : List Byte) (cells : List (Word × List Byte)) (s : State) : State :=
  ((cells.foldl cell s).storeBytes pc code).setPc pc

/-- One step goes on to a next state. -/
def runs (s : State) : Bool :=
  match step s with
  | .next _ => true
  | .fault _ => false
  | .refused _ => false

/-- What one step leaves, as `f` reads it. -/
def after {α : Type} (s : State) (f : State → α) : Option α :=
  match step s with
  | .next t => some (f t)
  | .fault _ => none
  | .refused _ => none

/-- What one instruction leaves, with the cycles it takes. -/
def outcome {α : Type} (s : State) (f : State → α) : Option (α × Nat) :=
  match step s, s.fetchInstr with
  | .next t, .ok i => some (f t, cycleCount i s)
  | .next _, .error _ => none
  | .fault _, _ => none
  | .refused _, _ => none

/-- Each string of bytes is the code of its instruction. -/
def decodes (l : List (List Byte × Instr)) : Bool :=
  l.all fun c => decide (decode c.1 = .ok (c.2, []))

theorem step_of_runs {s : State} (h : runs s = true) : ∃ t, step s = .next t := by
  unfold runs at h
  split at h
  · rename_i t ht
    exact ⟨t, ht⟩
  · cases h
  · cases h

/-! ## Ill-formed code is refused (R100, R109, R111) -/

theorem test_wf_empty : wellFormedCode [] = false := by decide
theorem test_wf_not_used : wellFormedCode [0x04] = false := by decide
theorem test_wf_too_short : wellFormedCode [0xAD, 0x34] = false := by decide
theorem test_wf_too_long : wellFormedCode [0xEA, 0x00] = false := by decide
theorem test_wf_good : wellFormedCode [0xE2, 0x34, 0x12, 0x0F, 0xFD] = true := by decide
theorem test_decode_empty : decode [] = .error .tooShort := by decide
theorem test_decode_too_short : decode [0xC2, 0x0F, 0x34] = .error .tooShort := by decide

/-! ## Every operation code of the opcode map (R108), low byte of an address first (R103) -/

theorem test_decode_row_0 : decodes [
    ([0x00], .brk), ([0x01, 0x5A], .oraInd 0x5A), ([0x02], .mpy), ([0x03], .tip), ([0x05, 0x5A], .oraZp 0x5A),
    ([0x06, 0x5A], .aslZp 0x5A), ([0x07, 0x5A], .rmb0 0x5A), ([0x08], .php), ([0x09, 0x5A], .oraImm 0x5A), ([0x0A], .aslAcc),
    ([0x0B], .jsb0), ([0x0C, 0x34, 0x12], .jpi 0x1234), ([0x0D, 0x34, 0x12], .oraAbs 0x1234),
    ([0x0E, 0x34, 0x12], .aslAbs 0x1234), ([0x0F, 0x5A, 0xFD], .bbr0 0x5A 0xFD)] = true := by decide

theorem test_decode_row_1 : decodes [
    ([0x10, 0xFD], .bpl 0xFD), ([0x11, 0x5A], .oraIndX 0x5A), ([0x12], .mpa), ([0x13], .lab), ([0x15, 0x5A], .oraZpX 0x5A),
    ([0x16, 0x5A], .aslZpX 0x5A), ([0x17, 0x5A], .rmb1 0x5A), ([0x18], .clc), ([0x19, 0x34, 0x12], .oraAbsY 0x1234),
    ([0x1A], .neg), ([0x1B], .jsb1), ([0x1D, 0x34, 0x12], .oraAbsX 0x1234), ([0x1E, 0x34, 0x12], .aslAbsX 0x1234),
    ([0x1F, 0x5A, 0xFD], .bbr1 0x5A 0xFD)] = true := by decide

theorem test_decode_row_2 : decodes [
    ([0x20, 0x34, 0x12], .jsr 0x1234), ([0x21, 0x5A], .andInd 0x5A), ([0x22], .psh), ([0x23], .phw),
    ([0x24, 0x5A], .bitZp 0x5A), ([0x25, 0x5A], .andZp 0x5A), ([0x26, 0x5A], .rolZp 0x5A), ([0x27, 0x5A], .rmb2 0x5A),
    ([0x28], .plp), ([0x29, 0x5A], .andImm 0x5A), ([0x2A], .rolAcc), ([0x2B], .jsb2), ([0x2C, 0x34, 0x12], .bitAbs 0x1234),
    ([0x2D, 0x34, 0x12], .andAbs 0x1234), ([0x2E, 0x34, 0x12], .rolAbs 0x1234), ([0x2F, 0x5A, 0xFD], .bbr2 0x5A 0xFD)] = true := by decide

theorem test_decode_row_3 : decodes [
    ([0x30, 0xFD], .bmi 0xFD), ([0x31, 0x5A], .andIndX 0x5A), ([0x32], .pul), ([0x33], .plw), ([0x35, 0x5A], .andZpX 0x5A),
    ([0x36, 0x5A], .rolZpX 0x5A), ([0x37, 0x5A], .rmb3 0x5A), ([0x38], .sec), ([0x39, 0x34, 0x12], .andAbsY 0x1234),
    ([0x3A], .asr), ([0x3B], .jsb3), ([0x3D, 0x34, 0x12], .andAbsX 0x1234), ([0x3E, 0x34, 0x12], .rolAbsX 0x1234),
    ([0x3F, 0x5A, 0xFD], .bbr3 0x5A 0xFD)] = true := by decide

theorem test_decode_row_4 : decodes [
    ([0x40], .rti), ([0x41, 0x5A], .eorInd 0x5A), ([0x42], .rnd), ([0x45, 0x5A], .eorZp 0x5A), ([0x46, 0x5A], .lsrZp 0x5A),
    ([0x47, 0x5A], .rmb4 0x5A), ([0x48], .pha), ([0x49, 0x5A], .eorImm 0x5A), ([0x4A], .lsrAcc), ([0x4B], .jsb4),
    ([0x4C, 0x34, 0x12], .jmpAbs 0x1234), ([0x4D, 0x34, 0x12], .eorAbs 0x1234), ([0x4E, 0x34, 0x12], .lsrAbs 0x1234),
    ([0x4F, 0x5A, 0xFD], .bbr4 0x5A 0xFD)] = true := by decide

theorem test_decode_row_5 : decodes [
    ([0x50, 0xFD], .bvc 0xFD), ([0x51, 0x5A], .eorIndX 0x5A), ([0x52], .clw), ([0x55, 0x5A], .eorZpX 0x5A),
    ([0x56, 0x5A], .lsrZpX 0x5A), ([0x57, 0x5A], .rmb5 0x5A), ([0x58], .cli), ([0x59, 0x34, 0x12], .eorAbsY 0x1234),
    ([0x5A], .phy), ([0x5B], .jsb5), ([0x5D, 0x34, 0x12], .eorAbsX 0x1234), ([0x5E, 0x34, 0x12], .lsrAbsX 0x1234),
    ([0x5F, 0x5A, 0xFD], .bbr5 0x5A 0xFD)] = true := by decide

theorem test_decode_row_6 : decodes [
    ([0x60], .rts), ([0x61, 0x5A], .adcInd 0x5A), ([0x62], .taw), ([0x64, 0x5A], .addZp 0x5A), ([0x65, 0x5A], .adcZp 0x5A),
    ([0x66, 0x5A], .rorZp 0x5A), ([0x67, 0x5A], .rmb6 0x5A), ([0x68], .pla), ([0x69, 0x5A], .adcImm 0x5A), ([0x6A], .rorAcc),
    ([0x6B], .jsb6), ([0x6C, 0x34, 0x12], .jmpInd 0x1234), ([0x6D, 0x34, 0x12], .adcAbs 0x1234),
    ([0x6E, 0x34, 0x12], .rorAbs 0x1234), ([0x6F, 0x5A, 0xFD], .bbr6 0x5A 0xFD)] = true := by decide

theorem test_decode_row_7 : decodes [
    ([0x70, 0xFD], .bvs 0xFD), ([0x71, 0x5A], .adcIndX 0x5A), ([0x72], .twa), ([0x74, 0x5A], .addZpX 0x5A),
    ([0x75, 0x5A], .adcZpX 0x5A), ([0x76, 0x5A], .rorZpX 0x5A), ([0x77, 0x5A], .rmb7 0x5A), ([0x78], .sei),
    ([0x79, 0x34, 0x12], .adcAbsY 0x1234), ([0x7A], .ply), ([0x7B], .jsb7), ([0x7C, 0x34, 0x12], .jmpIndX 0x1234),
    ([0x7D, 0x34, 0x12], .adcAbsX 0x1234), ([0x7E, 0x34, 0x12], .rorAbsX 0x1234), ([0x7F, 0x5A, 0xFD], .bbr7 0x5A 0xFD)] = true := by decide

theorem test_decode_row_8 : decodes [
    ([0x80, 0xFD], .bra 0xFD), ([0x81, 0x5A], .staInd 0x5A), ([0x84, 0x5A], .styZp 0x5A), ([0x85, 0x5A], .staZp 0x5A),
    ([0x86, 0x5A], .stxZp 0x5A), ([0x87, 0x5A], .smb0 0x5A), ([0x88], .dey), ([0x89, 0x5A], .addImm 0x5A), ([0x8A], .txa),
    ([0x8B], .nxt), ([0x8C, 0x34, 0x12], .styAbs 0x1234), ([0x8D, 0x34, 0x12], .staAbs 0x1234),
    ([0x8E, 0x34, 0x12], .stxAbs 0x1234), ([0x8F, 0x5A, 0xFD], .bbs0 0x5A 0xFD)] = true := by decide

theorem test_decode_row_9 : decodes [
    ([0x90, 0xFD], .bcc 0xFD), ([0x91, 0x5A], .staIndX 0x5A), ([0x94, 0x5A], .styZpX 0x5A), ([0x95, 0x5A], .staZpX 0x5A),
    ([0x96, 0x5A], .stxZpY 0x5A), ([0x97, 0x5A], .smb1 0x5A), ([0x98], .tya), ([0x99, 0x34, 0x12], .staAbsY 0x1234),
    ([0x9A], .txs), ([0x9B], .lii), ([0x9D, 0x34, 0x12], .staAbsX 0x1234), ([0x9F, 0x5A, 0xFD], .bbs1 0x5A 0xFD)] = true := by decide

theorem test_decode_row_A : decodes [
    ([0xA0, 0x5A], .ldyImm 0x5A), ([0xA1, 0x5A], .ldaInd 0x5A), ([0xA2, 0x5A], .ldxImm 0x5A), ([0xA4, 0x5A], .ldyZp 0x5A),
    ([0xA5, 0x5A], .ldaZp 0x5A), ([0xA6, 0x5A], .ldxZp 0x5A), ([0xA7, 0x5A], .smb2 0x5A), ([0xA8], .tay),
    ([0xA9, 0x5A], .ldaImm 0x5A), ([0xAA], .tax), ([0xAB], .lan), ([0xAC, 0x34, 0x12], .ldyAbs 0x1234),
    ([0xAD, 0x34, 0x12], .ldaAbs 0x1234), ([0xAE, 0x34, 0x12], .ldxAbs 0x1234), ([0xAF, 0x5A, 0xFD], .bbs2 0x5A 0xFD)] = true := by decide

theorem test_decode_row_B : decodes [
    ([0xB0, 0xFD], .bcs 0xFD), ([0xB1, 0x5A], .ldaIndX 0x5A), ([0xB2, 0xA5, 0x5A], .sti 0xA5 0x5A),
    ([0xB4, 0x5A], .ldyZpX 0x5A), ([0xB5, 0x5A], .ldaZpX 0x5A), ([0xB6, 0x5A], .ldxZpY 0x5A), ([0xB7, 0x5A], .smb3 0x5A),
    ([0xB8], .clv), ([0xB9, 0x34, 0x12], .ldaAbsY 0x1234), ([0xBA], .tsx), ([0xBB], .ini),
    ([0xBC, 0x34, 0x12], .ldyAbsX 0x1234), ([0xBD, 0x34, 0x12], .ldaAbsX 0x1234), ([0xBE, 0x34, 0x12], .ldxAbsY 0x1234),
    ([0xBF, 0x5A, 0xFD], .bbs3 0x5A 0xFD)] = true := by decide

theorem test_decode_row_C : decodes [
    ([0xC0, 0x5A], .cpyImm 0x5A), ([0xC1, 0x5A], .cmpInd 0x5A), ([0xC2, 0x0F, 0x34, 0x12], .rba 0x0F 0x1234),
    ([0xC4, 0x5A], .cpyZp 0x5A), ([0xC5, 0x5A], .cmpZp 0x5A), ([0xC6, 0x5A], .decZp 0x5A), ([0xC7, 0x5A], .smb4 0x5A),
    ([0xC8], .iny), ([0xC9, 0x5A], .cmpImm 0x5A), ([0xCA], .dex), ([0xCB], .phi), ([0xCC, 0x34, 0x12], .cpyAbs 0x1234),
    ([0xCD, 0x34, 0x12], .cmpAbs 0x1234), ([0xCE, 0x34, 0x12], .decAbs 0x1234), ([0xCF, 0x5A, 0xFD], .bbs4 0x5A 0xFD)] = true := by decide

theorem test_decode_row_D : decodes [
    ([0xD0, 0xFD], .bne 0xFD), ([0xD1, 0x5A], .cmpIndX 0x5A), ([0xD2, 0x0F, 0x34, 0x12], .sba 0x0F 0x1234),
    ([0xD4, 0x5A], .exc 0x5A), ([0xD5, 0x5A], .cmpZpX 0x5A), ([0xD6, 0x5A], .decZpX 0x5A), ([0xD7, 0x5A], .smb5 0x5A),
    ([0xD8], .cld), ([0xD9, 0x34, 0x12], .cmpAbsY 0x1234), ([0xDA], .phx), ([0xDB], .pli),
    ([0xDD, 0x34, 0x12], .cmpAbsX 0x1234), ([0xDE, 0x34, 0x12], .decAbsX 0x1234), ([0xDF, 0x5A, 0xFD], .bbs5 0x5A 0xFD)] = true := by decide

theorem test_decode_row_E : decodes [
    ([0xE0, 0x5A], .cpxImm 0x5A), ([0xE1, 0x5A], .sbcInd 0x5A), ([0xE2, 0x34, 0x12, 0x0F, 0xFD], .bar 0x1234 0x0F 0xFD),
    ([0xE4, 0x5A], .cpxZp 0x5A), ([0xE5, 0x5A], .sbcZp 0x5A), ([0xE6, 0x5A], .incZp 0x5A), ([0xE7, 0x5A], .smb6 0x5A),
    ([0xE8], .inx), ([0xE9, 0x5A], .sbcImm 0x5A), ([0xEA], .nop), ([0xEB], .lai), ([0xEC, 0x34, 0x12], .cpxAbs 0x1234),
    ([0xED, 0x34, 0x12], .sbcAbs 0x1234), ([0xEE, 0x34, 0x12], .incAbs 0x1234), ([0xEF, 0x5A, 0xFD], .bbs6 0x5A 0xFD)] = true := by decide

theorem test_decode_row_F : decodes [
    ([0xF0, 0xFD], .beq 0xFD), ([0xF1, 0x5A], .sbcIndX 0x5A), ([0xF2, 0x34, 0x12, 0x0F, 0xFD], .bas 0x1234 0x0F 0xFD),
    ([0xF5, 0x5A], .sbcZpX 0x5A), ([0xF6, 0x5A], .incZpX 0x5A), ([0xF7, 0x5A], .smb7 0x5A), ([0xF8], .sed),
    ([0xF9, 0x34, 0x12], .sbcAbsY 0x1234), ([0xFA], .plx), ([0xFB], .pia), ([0xFD, 0x34, 0x12], .sbcAbsX 0x1234),
    ([0xFE, 0x34, 0x12], .incAbsX 0x1234), ([0xFF, 0x5A, 0xFD], .bbs7 0x5A 0xFD)] = true := by decide

/-- The 27 codes of Table A-3 marked "Not Used" (R109; V30-3). -/
theorem test_v30_3_not_used : notUsedCodes.all (fun op => decide (decode [op, 0, 0, 0, 0] = .error (.notUsed op))) = true := by
  decide

/-! ## One step each, from 95_test_vectors.md: the listed registers and bytes, and the cycles -/

theorem test_v41_1_ldaImm : outcome (place 0x2200 [0xA9, 0x00] [] { zeros with a := 0x55, p := 0x80 })
    (fun t => (t.a, t.p, t.pc)) = some ((0x00, 0x02, 0x2202), 2) := by decide

theorem test_v41_3_ldaZpX :
    outcome (place 0x2200 [0xB5, 0xF0] [(0x0010, [0x7F]), (0x0110, [0xEE])] { zeros with x := 0x20, p := 0x00 })
    (fun t => (t.a, t.p, t.pc)) = some ((0x7F, 0x00, 0x2202), 4) := by decide

theorem test_v41_4_ldaAbsX : outcome (place 0x2200 [0xBD, 0xF0, 0x30] [(0x3110, [0x01])] { zeros with x := 0x20, p := 0x00 })
    (fun t => (t.a, t.p, t.pc)) = some ((0x01, 0x00, 0x2203), 5) := by decide

theorem test_v41_6_ldaInd :
    outcome (place 0x2200 [0xA1, 0xFF] [(0x00FF, [0x34]), (0x0000, [0x12]), (0x1234, [0xC3])] { zeros with x := 0x99, p := 0x00 })
    (fun t => (t.a, t.p, t.pc)) = some ((0xC3, 0x80, 0x2202), 5) := by decide

theorem test_v41_7_ldaIndX :
    outcome (place 0x2200 [0xB1, 0x40] [(0x0040, [0xF0, 0x12]), (0x1310, [0x00])] { zeros with a := 0x55, x := 0x20, p := 0x00 })
    (fun t => (t.a, t.p, t.pc)) = some ((0x00, 0x02, 0x2202), 6) := by decide

theorem test_v41_8_ldxZpY : outcome (place 0x2200 [0xB6, 0x10] [(0x0015, [0xFF])] { zeros with y := 0x05, p := 0x00 })
    (fun t => (t.x, t.p, t.pc)) = some ((0xFF, 0x80, 0x2202), 4) := by decide

theorem test_v41_9_staIndX :
    outcome (place 0x2200 [0x91, 0x40] [(0x0040, [0xFF, 0x12])] { zeros with a := 0xAB, x := 0x01, p := 0x00 })
    (fun t => (t.p, t.pc, t.read 0x1300)) = some ((0x00, 0x2202, 0xAB), 6) := by decide

theorem test_v41_10_staAbsX : outcome (place 0x2200 [0x9D, 0xFF, 0x30] [] { zeros with a := 0xAB, x := 0x01, p := 0x82 })
    (fun t => (t.p, t.pc, t.read 0x3100)) = some ((0x82, 0x2203, 0xAB), 5) := by decide

theorem test_v41_11_sti : outcome (place 0x2200 [0xB2, 0x5A, 0x10] [] { zeros with p := 0x82 })
    (fun t => (t.p, t.pc, t.read 0x0010)) = some ((0x82, 0x2203, 0x5A), 4) := by decide

theorem test_v41_12_txs : outcome (place 0x2200 [0x9A] [] { zeros with x := 0x00, sp := 0x77, p := 0x80 })
    (fun t => (t.sp, t.p, t.pc)) = some ((0x00, 0x80, 0x2201), 2) := by decide

theorem test_v41_13_tsx : outcome (place 0x2200 [0xBA] [] { zeros with x := 0x11, sp := 0x00, p := 0x80 })
    (fun t => (t.x, t.p, t.pc)) = some ((0x00, 0x02, 0x2201), 2) := by decide

theorem test_v41_14_exc : outcome (place 0x2200 [0xD4, 0xF0] [(0x0010, [0x80])] { zeros with a := 0x11, x := 0x20, p := 0x02 })
    (fun t => (t.a, t.p, t.pc, t.read 0x0010)) = some ((0x80, 0x02, 0x2202, 0x11), 5) := by decide

theorem test_v41_15_txa : outcome (place 0x2200 [0x8A] [] { zeros with a := 0x11, x := 0x00, p := 0x80 })
    (fun t => (t.a, t.p, t.pc)) = some ((0x00, 0x02, 0x2201), 2) := by decide

theorem test_v42_1_adcImm : outcome (place 0x2200 [0x69, 0x01] [] { zeros with a := 0x7F, p := 0x00 })
    (fun t => (t.a, t.p, t.pc)) = some ((0x80, 0xC0, 0x2202), 2) := by decide

theorem test_v42_5_adcImm : outcome (place 0x2200 [0x69, 0x01] [] { zeros with a := 0x99, p := 0x08 })
    (fun t => (t.a, t.p, t.pc)) = some ((0x00, 0x0B, 0x2202), 3) := by decide

theorem test_v42_9_addImm : outcome (place 0x2200 [0x89, 0x01] [] { zeros with a := 0x01, p := 0x01 })
    (fun t => (t.a, t.p, t.pc)) = some ((0x02, 0x00, 0x2202), 2) := by decide

theorem test_v42_10_addZp : outcome (place 0x2200 [0x64, 0x10] [(0x0010, [0x55])] { zeros with a := 0x45, p := 0x09 })
    (fun t => (t.a, t.p, t.pc)) = some ((0x00, 0x0B, 0x2202), 4) := by decide

theorem test_v42_11_sbcImm : outcome (place 0x2200 [0xE9, 0x01] [] { zeros with a := 0x00, p := 0x01 })
    (fun t => (t.a, t.p, t.pc)) = some ((0xFF, 0x80, 0x2202), 2) := by decide

theorem test_v42_15_sbcImm : outcome (place 0x2200 [0xE9, 0x01] [] { zeros with a := 0x00, p := 0x09 })
    (fun t => (t.a, t.p, t.pc)) = some ((0x99, 0x88, 0x2202), 3) := by decide

theorem test_v42_17_cmpImm : outcome (place 0x2200 [0xC9, 0x30] [] { zeros with a := 0x20, p := 0x00 })
    (fun t => (t.p, t.pc)) = some ((0x80, 0x2202), 2) := by decide

theorem test_v42_20_cmpImm : outcome (place 0x2200 [0xC9, 0x01] [] { zeros with a := 0x81, p := 0x40 })
    (fun t => (t.p, t.pc)) = some ((0xC1, 0x2202), 2) := by decide

theorem test_v42_21_cpxImm : outcome (place 0x2200 [0xE0, 0x10] [] { zeros with x := 0x0F, p := 0x00 })
    (fun t => (t.p, t.pc)) = some ((0x80, 0x2202), 2) := by decide

theorem test_v42_22_cpyImm : outcome (place 0x2200 [0xC0, 0x00] [] { zeros with y := 0x00, p := 0x00 })
    (fun t => (t.p, t.pc)) = some ((0x03, 0x2202), 2) := by decide

theorem test_v42_23_bitZp : outcome (place 0x2200 [0x24, 0x10] [(0x0010, [0xC0])] { zeros with a := 0x0F, p := 0x00 })
    (fun t => (t.p, t.pc)) = some ((0xC2, 0x2202), 3) := by decide

theorem test_v42_24_bitAbs : outcome (place 0x2200 [0x2C, 0x00, 0x40] [(0x4000, [0x01])] { zeros with a := 0xFF, p := 0xC2 })
    (fun t => (t.p, t.pc)) = some ((0x00, 0x2203), 4) := by decide

theorem test_v42_25_andImm : outcome (place 0x2200 [0x29, 0x0F] [] { zeros with a := 0xF0, p := 0x00 })
    (fun t => (t.a, t.p, t.pc)) = some ((0x00, 0x02, 0x2202), 2) := by decide

theorem test_v42_26_oraImm : outcome (place 0x2200 [0x09, 0x80] [] { zeros with a := 0x01, p := 0x00 })
    (fun t => (t.a, t.p, t.pc)) = some ((0x81, 0x80, 0x2202), 2) := by decide

theorem test_v42_27_eorImm : outcome (place 0x2200 [0x49, 0xFF] [] { zeros with a := 0xFF, p := 0x00 })
    (fun t => (t.a, t.p, t.pc)) = some ((0x00, 0x02, 0x2202), 2) := by decide

theorem test_v42_28_incZp : outcome (place 0x2200 [0xE6, 0x10] [(0x0010, [0xFF])] { zeros with p := 0x01 })
    (fun t => (t.p, t.pc, t.read 0x0010)) = some ((0x03, 0x2202, 0x00), 5) := by decide

theorem test_v42_29_decAbs : outcome (place 0x2200 [0xCE, 0x00, 0x40] [(0x4000, [0x00])] { zeros with p := 0x00 })
    (fun t => (t.p, t.pc, t.read 0x4000)) = some ((0x80, 0x2203, 0xFF), 6) := by decide

theorem test_v42_30_incAbsX : outcome (place 0x2200 [0xFE, 0xF0, 0x30] [(0x3110, [0x7F])] { zeros with x := 0x20, p := 0x00 })
    (fun t => (t.p, t.pc, t.read 0x3110)) = some ((0x80, 0x2203, 0x80), 7) := by decide

theorem test_v42_31_inx : outcome (place 0x2200 [0xE8] [] { zeros with x := 0xFF, p := 0x00 })
    (fun t => (t.x, t.p, t.pc)) = some ((0x00, 0x02, 0x2201), 2) := by decide

theorem test_v42_32_dey : outcome (place 0x2200 [0x88] [] { zeros with y := 0x00, p := 0x00 })
    (fun t => (t.y, t.p, t.pc)) = some ((0xFF, 0x80, 0x2201), 2) := by decide

theorem test_v42_33_neg : outcome (place 0x2200 [0x1A] [] { zeros with a := 0x80, p := 0x00 })
    (fun t => (t.a, t.p, t.pc)) = some ((0x80, 0x80, 0x2201), 2) := by decide

theorem test_v42_35_lab : outcome (place 0x2200 [0x13] [] { zeros with a := 0xFB, p := 0x80 })
    (fun t => (t.a, t.p, t.pc)) = some ((0x05, 0x00, 0x2201), 3) := by decide

theorem test_v42_36_lab : outcome (place 0x2200 [0x13] [] { zeros with a := 0x80, p := 0x00 })
    (fun t => (t.a, t.p, t.pc)) = some ((0x80, 0x80, 0x2201), 3) := by decide

theorem test_v43_1_aslAcc : outcome (place 0x2200 [0x0A] [] { zeros with a := 0x80, p := 0x00 })
    (fun t => (t.a, t.p, t.pc)) = some ((0x00, 0x03, 0x2201), 2) := by decide

theorem test_v43_2_aslZp : outcome (place 0x2200 [0x06, 0x10] [(0x0010, [0x41])] { zeros with a := 0x33, p := 0x01 })
    (fun t => (t.p, t.pc, t.read 0x0010)) = some ((0x80, 0x2202, 0x82), 5) := by decide

theorem test_v43_3_lsrAcc : outcome (place 0x2200 [0x4A] [] { zeros with a := 0x01, p := 0x80 })
    (fun t => (t.a, t.p, t.pc)) = some ((0x00, 0x03, 0x2201), 2) := by decide

theorem test_v43_4_rolAcc : outcome (place 0x2200 [0x2A] [] { zeros with a := 0x80, p := 0x01 })
    (fun t => (t.a, t.p, t.pc)) = some ((0x01, 0x01, 0x2201), 2) := by decide

theorem test_v43_6_rorAcc : outcome (place 0x2200 [0x6A] [] { zeros with a := 0x01, p := 0x01 })
    (fun t => (t.a, t.p, t.pc)) = some ((0x80, 0x81, 0x2201), 2) := by decide

theorem test_v43_8_asr : outcome (place 0x2200 [0x3A] [] { zeros with a := 0x81, p := 0x00 })
    (fun t => (t.a, t.p, t.pc)) = some ((0xC0, 0x81, 0x2201), 2) := by decide

theorem test_v43_10_rorAbsX : outcome (place 0x2200 [0x7E, 0xFF, 0x30] [(0x3100, [0x02])] { zeros with x := 0x01, p := 0x01 })
    (fun t => (t.p, t.pc, t.read 0x3100)) = some ((0x80, 0x2203, 0x81), 7) := by decide

theorem test_v44_1_mpy : outcome (place 0x2200 [0x02] [] { zeros with a := 0x7F, y := 0x7F, p := 0xC3 })
    (fun t => (t.a, t.y, t.p, t.pc)) = some ((0x3F, 0x01, 0x03, 0x2201), 6) := by decide

theorem test_v44_3_mpy : outcome (place 0x2200 [0x02] [] { zeros with a := 0xFF, y := 0x02, p := 0x00 })
    (fun t => (t.a, t.y, t.p, t.pc)) = some ((0xFF, 0xFE, 0x80, 0x2201), 6) := by decide

theorem test_v44_6_mpa : outcome (place 0x2200 [0x12] [] { zeros with a := 0x7F, y := 0x7F, w := 0x7000, p := 0x00 })
    (fun t => (t.w, t.p, t.pc)) = some ((0x7FFF, 0x40, 0x2201), 6) := by decide

theorem test_v44_7_mpa : outcome (place 0x2200 [0x12] [] { zeros with a := 0x80, y := 0x7F, w := 0x8100, p := 0x00 })
    (fun t => (t.w, t.p, t.pc)) = some ((0x8000, 0xC0, 0x2201), 6) := by decide

theorem test_v44_11_rnd : outcome (place 0x2200 [0x42] [] { zeros with a := 0x00, y := 0x55, w := 0x7F80, p := 0x00 })
    (fun t => (t.a, t.p, t.pc)) = some ((0x7F, 0x40, 0x2201), 2) := by decide

theorem test_v44_12_rnd : outcome (place 0x2200 [0x42] [] { zeros with a := 0x55, y := 0x55, w := 0xFF80, p := 0x80 })
    (fun t => (t.a, t.p, t.pc)) = some ((0x00, 0x00, 0x2201), 2) := by decide

theorem test_v44_14_clw : outcome (place 0x2200 [0x52] [] { zeros with w := 0xBEEF, p := 0xC2 })
    (fun t => (t.w, t.p, t.pc)) = some ((0x0000, 0x82, 0x2201), 2) := by decide

theorem test_v44_15_taw : outcome (place 0x2200 [0x62] [] { zeros with a := 0x80, w := 0x1234, p := 0x02 })
    (fun t => (t.w, t.p, t.pc)) = some ((0x8000, 0x80, 0x2201), 2) := by decide

theorem test_v44_16_twa : outcome (place 0x2200 [0x72] [] { zeros with a := 0x55, w := 0x00FF, p := 0x80 })
    (fun t => (t.a, t.p, t.pc)) = some ((0x00, 0x02, 0x2201), 2) := by decide

theorem test_v44_17_phw : outcome (place 0x2200 [0x23] [] { zeros with w := 0x1234, sp := 0xFF })
    (fun t => (t.sp, t.pc, t.read 0x01FE, t.read 0x01FF)) = some ((0xFD, 0x2201, 0x34, 0x12), 4) := by decide

theorem test_v44_18_plw : outcome (place 0x2200 [0x33] [(0x01FE, [0x34, 0x82])] { zeros with w := 0x0000, sp := 0xFD, p := 0x00 })
    (fun t => (t.sp, t.w, t.p, t.pc)) = some ((0xFF, 0x8234, 0x00, 0x2201), 5) := by decide

theorem test_v45_1_rmb0 : outcome (place 0x2200 [0x07, 0x10] [(0x0010, [0xFF])] { zeros with p := 0xC3 })
    (fun t => (t.p, t.pc, t.read 0x0010)) = some ((0xC3, 0x2202, 0xFE), 5) := by decide

theorem test_v45_3_smb7 : outcome (place 0x2200 [0xF7, 0x10] [(0x0010, [0x00])] { zeros with p := 0x00 })
    (fun t => (t.p, t.pc, t.read 0x0010)) = some ((0x00, 0x2202, 0x80), 5) := by decide

theorem test_v45_4_rba : outcome (place 0x2200 [0xC2, 0x0F, 0x00, 0x40] [(0x4000, [0xFF])] { zeros with a := 0x55, p := 0x00 })
    (fun t => (t.pc, t.read 0x4000)) = some ((0x2204, 0xF0), 7) := by decide

theorem test_v45_5_sba : outcome (place 0x2200 [0xD2, 0x81, 0x00, 0x40] [(0x4000, [0x02])] { zeros with a := 0x55, p := 0x00 })
    (fun t => (t.pc, t.read 0x4000)) = some ((0x2204, 0x83), 7) := by decide

theorem test_v45_6_bbr0 : outcome (place 0x2200 [0x0F, 0x10, 0x05] [(0x0010, [0xFE])] zeros)
    (fun t => t.pc) = some (0x2208, 6) := by decide

theorem test_v45_8_bbs7 : outcome (place 0x2200 [0xFF, 0x10, 0xFB] [(0x0010, [0x80])] zeros)
    (fun t => t.pc) = some (0x21FE, 7) := by decide

theorem test_v45_10_bar : outcome (place 0x2200 [0xE2, 0x00, 0x40, 0x06, 0x10] [(0x4000, [0x04])] zeros)
    (fun t => t.pc) = some (0x2215, 8) := by decide

theorem test_v45_11_bar : outcome (place 0x2200 [0xE2, 0x00, 0x40, 0x06, 0x10] [(0x4000, [0x06])] zeros)
    (fun t => t.pc) = some (0x2205, 7) := by decide

theorem test_v45_13_bas : outcome (place 0x2200 [0xF2, 0x00, 0x40, 0x00, 0x10] [(0x4000, [0xFF])] zeros)
    (fun t => t.pc) = some (0x2205, 7) := by decide

theorem test_v45_15_bas : outcome (place 0x22F0 [0xF2, 0x00, 0x40, 0x01, 0x7F] [(0x4000, [0x01])] zeros)
    (fun t => t.pc) = some (0x2374, 9) := by decide

theorem test_v46_1_bcc : outcome (place 0x2200 [0x90, 0x10] [] { zeros with p := 0x00 })
    (fun t => (t.p, t.pc)) = some ((0x00, 0x2212), 3) := by decide

theorem test_v46_3_bcs : outcome (place 0x2200 [0xB0, 0x10] [] { zeros with p := 0x01 })
    (fun t => (t.p, t.pc)) = some ((0x01, 0x2212), 3) := by decide

theorem test_v46_4_beq : outcome (place 0x2200 [0xF0, 0x7F] [] { zeros with p := 0x02 })
    (fun t => (t.p, t.pc)) = some ((0x02, 0x2281), 3) := by decide

theorem test_v46_5_bne : outcome (place 0x2200 [0xD0, 0x80] [] { zeros with p := 0x00 })
    (fun t => (t.p, t.pc)) = some ((0x00, 0x2182), 4) := by decide

theorem test_v46_6_bmi : outcome (place 0x2200 [0x30, 0xFE] [] { zeros with p := 0x80 })
    (fun t => (t.p, t.pc)) = some ((0x80, 0x2200), 3) := by decide

theorem test_v46_7_bpl : outcome (place 0x2200 [0x10, 0x10] [] { zeros with p := 0x80 })
    (fun t => (t.p, t.pc)) = some ((0x80, 0x2202), 2) := by decide

theorem test_v46_8_bvc : outcome (place 0x2200 [0x50, 0x00] [] { zeros with p := 0x00 })
    (fun t => (t.p, t.pc)) = some ((0x00, 0x2202), 3) := by decide

theorem test_v46_9_bvs : outcome (place 0x22F8 [0x70, 0x10] [] { zeros with p := 0x40 })
    (fun t => (t.p, t.pc)) = some ((0x40, 0x230A), 4) := by decide

theorem test_v46_11_bra : outcome (place 0x22FC [0x80, 0x02] [] zeros)
    (fun t => t.pc) = some (0x2300, 4) := by decide

theorem test_v46_12_bcc : outcome (place 0xFFFC [0x90, 0x02] [] { zeros with p := 0x00 })
    (fun t => (t.p, t.pc)) = some ((0x00, 0x0000), 4) := by decide

theorem test_v46_13_jmpAbs : outcome (place 0x2200 [0x4C, 0x34, 0x12] [] zeros)
    (fun t => t.pc) = some (0x1234, 3) := by decide

theorem test_v46_14_jmpInd :
    outcome (place 0x2200 [0x6C, 0xFF, 0x30] [(0x30FF, [0x78]), (0x3100, [0x56]), (0x3000, [0xEE])] zeros)
    (fun t => t.pc) = some (0x5678, 5) := by decide

theorem test_v46_15_jmpIndX : outcome (place 0x2200 [0x7C, 0xF0, 0x30] [(0x3110, [0x00, 0x80])] { zeros with x := 0x20 })
    (fun t => t.pc) = some (0x8000, 6) := by decide

theorem test_v46_16_jsr : outcome (place 0x2200 [0x20, 0x00, 0x30] [] { zeros with sp := 0xFF })
    (fun t => (t.sp, t.pc, t.read 0x01FE, t.read 0x01FF)) = some ((0xFD, 0x3000, 0x03, 0x22), 5) := by decide

theorem test_v46_17_jsr : outcome (place 0x2200 [0x20, 0x00, 0x30] [] { zeros with sp := 0x00 })
    (fun t => (t.sp, t.pc, t.read 0x0100, t.read 0x01FF)) = some ((0xFE, 0x3000, 0x22, 0x03), 5) := by decide

theorem test_v46_18_jsb3 : outcome (place 0x2200 [0x3B] [(0xFFE6, [0x00, 0x50])] { zeros with sp := 0xFF })
    (fun t => (t.sp, t.pc, t.read 0x01FE, t.read 0x01FF)) = some ((0xFD, 0x5000, 0x01, 0x22), 6) := by decide

theorem test_v46_19_jsb7 : outcome (place 0x2200 [0x7B] [(0xFFEE, [0xCD, 0xAB])] { zeros with sp := 0xFF })
    (fun t => (t.sp, t.pc, t.read 0x01FE, t.read 0x01FF)) = some ((0xFD, 0xABCD, 0x01, 0x22), 6) := by decide

theorem test_v46_20_rts : outcome (place 0x3300 [0x60] [(0x01FE, [0x03, 0x22])] { zeros with sp := 0xFD })
    (fun t => (t.sp, t.pc)) = some ((0xFF, 0x2203), 5) := by decide

theorem test_v46_21_rts : outcome (place 0x3300 [0x60] [(0x01FF, [0x34]), (0x0100, [0x12])] { zeros with sp := 0xFE })
    (fun t => (t.sp, t.pc)) = some ((0x00, 0x1234), 5) := by decide

theorem test_v47_2_pha : outcome (place 0x2200 [0x48] [] { zeros with a := 0xAB, sp := 0x00 })
    (fun t => (t.sp, t.pc, t.read 0x0100)) = some ((0xFF, 0x2201, 0xAB), 3) := by decide

theorem test_v47_3_php : outcome (place 0x2200 [0x08] [] { zeros with sp := 0xFF, p := 0xFF })
    (fun t => (t.sp, t.p, t.pc, t.read 0x01FF)) = some ((0xFE, 0xFF, 0x2201, 0xFF), 3) := by decide

theorem test_v47_4_php : outcome (place 0x2200 [0x08] [(0x01FF, [0xEE])] { zeros with sp := 0xFF, p := 0x00 })
    (fun t => (t.sp, t.p, t.pc, t.read 0x01FF)) = some ((0xFE, 0x00, 0x2201, 0x00), 3) := by decide

theorem test_v47_5_phx : outcome (place 0x2200 [0xDA] [] { zeros with x := 0x12, sp := 0x80 })
    (fun t => (t.sp, t.pc, t.read 0x0180)) = some ((0x7F, 0x2201, 0x12), 3) := by decide

theorem test_v47_6_phy : outcome (place 0x2200 [0x5A] [] { zeros with y := 0x34, sp := 0x80 })
    (fun t => (t.sp, t.pc, t.read 0x0180)) = some ((0x7F, 0x2201, 0x34), 3) := by decide

theorem test_v47_7_psh : outcome (place 0x2200 [0x22] [] { zeros with a := 0x11, x := 0x22, y := 0x33, sp := 0xFF })
    (fun t => ([t.sp, t.read 0x01FD, t.read 0x01FE, t.read 0x01FF], [t.pc])) = some (([0xFC, 0x33, 0x22, 0x11], [0x2201]), 5) := by decide

theorem test_v47_9_pla : outcome (place 0x2200 [0x68] [(0x0100, [0x80])] { zeros with a := 0x55, sp := 0xFF, p := 0x00 })
    (fun t => (t.a, t.sp, t.p, t.pc)) = some ((0x80, 0x00, 0x80, 0x2201), 4) := by decide

theorem test_v47_10_plp : outcome (place 0x2200 [0x28] [(0x01FF, [0xFF])] { zeros with sp := 0xFE, p := 0x00 })
    (fun t => (t.sp, t.p, t.pc)) = some ((0xFF, 0xCF, 0x2201), 4) := by decide

theorem test_v47_11_plp : outcome (place 0x2200 [0x28] [(0x01FF, [0x00])] { zeros with sp := 0xFE, p := 0xFF })
    (fun t => (t.sp, t.p, t.pc)) = some ((0xFF, 0x30, 0x2201), 4) := by decide

theorem test_v47_12_plx : outcome (place 0x2200 [0xFA] [(0x01FF, [0x80])] { zeros with sp := 0xFE, p := 0x00 })
    (fun t => (t.x, t.sp, t.p, t.pc)) = some ((0x80, 0xFF, 0x80, 0x2201), 4) := by decide

theorem test_v47_13_ply : outcome (place 0x2200 [0x7A] [(0x01FF, [0x00])] { zeros with y := 0x55, sp := 0xFE, p := 0x80 })
    (fun t => (t.y, t.sp, t.p, t.pc)) = some ((0x00, 0xFF, 0x02, 0x2201), 4) := by decide

theorem test_v47_14_pul :
    outcome (place 0x2200 [0x32] [(0x01FD, [0x00, 0x80, 0x00])] { zeros with a := 0x55, x := 0x55, y := 0x55, sp := 0xFC, p := 0x00 })
    (fun t => ([t.a, t.x, t.y, t.sp, t.p], [t.pc])) = some (([0x00, 0x80, 0x00, 0xFF, 0x00], [0x2201]), 6) := by decide

theorem test_v48_2_nxt : outcome (place 0x2200 [0x8B] [(0xFFFF, [0x34]), (0x0000, [0x12])] { zeros with ireg := 0xFFFF })
    (fun t => (t.ireg, t.pc)) = some ((0x0001, 0x1234), 4) := by decide

theorem test_v48_3_lii : outcome (place 0x2200 [0x9B] [(0x3000, [0x00, 0x40])] { zeros with ireg := 0x3000 })
    (fun t => (t.ireg, t.pc)) = some ((0x4000, 0x2201), 5) := by decide

theorem test_v48_4_lai : outcome (place 0x2200 [0xEB] [(0x3000, [0x00])] { zeros with a := 0x55, ireg := 0x3000, p := 0x00 })
    (fun t => (t.a, t.p, t.pc)) = some ((0x00, 0x00, 0x2201), 3) := by decide

theorem test_v48_5_lan : outcome (place 0x2200 [0xAB] [(0xFFFF, [0x80])] { zeros with a := 0x55, ireg := 0xFFFF, p := 0x00 })
    (fun t => (t.a, t.ireg, t.p, t.pc)) = some ((0x80, 0x0000, 0x00, 0x2201), 3) := by decide

theorem test_v48_6_ini : outcome (place 0x2200 [0xBB] [] { zeros with ireg := 0x30FF, p := 0x00 })
    (fun t => (t.ireg, t.p, t.pc)) = some ((0x3100, 0x00, 0x2201), 3) := by decide

theorem test_v48_8_phi : outcome (place 0x2200 [0xCB] [] { zeros with ireg := 0x1234, sp := 0xFF })
    (fun t => (t.sp, t.pc, t.read 0x01FE, t.read 0x01FF)) = some ((0xFD, 0x2201, 0x34, 0x12), 4) := by decide

theorem test_v48_9_pli : outcome (place 0x2200 [0xDB] [(0x01FE, [0x34, 0x12])] { zeros with ireg := 0x0000, sp := 0xFD })
    (fun t => (t.sp, t.ireg, t.pc)) = some ((0xFF, 0x1234, 0x2201), 6) := by decide

theorem test_v48_10_jpi : outcome (place 0x2200 [0x0C, 0x00, 0x30] [(0x3000, [0x00, 0x21])] { zeros with ireg := 0x0000 })
    (fun t => (t.ireg, t.pc)) = some ((0x2203, 0x2100), 5) := by decide

theorem test_v48_11_tip : outcome (place 0x2200 [0x03] [] { zeros with ireg := 0x2203, p := 0x00 })
    (fun t => (t.p, t.pc)) = some ((0x00, 0x2203), 2) := by decide

theorem test_v48_12_pia :
    outcome (place 0x2200 [0xFB] [(0x01FE, [0x00, 0x30]), (0x3000, [0x85])] { zeros with a := 0x00, x := 0x00, ireg := 0x0000, sp := 0xFD, p := 0x00 })
    (fun t => ([t.a, t.x, t.sp, t.p], [t.ireg, t.pc])) = some (([0x85, 0x85, 0xFF, 0x80], [0x3001, 0x2201]), 6) := by decide

theorem test_v48_13_pia :
    outcome (place 0x2200 [0xFB] [(0x01FE, [0xFF, 0xFF]), (0xFFFF, [0x00])] { zeros with a := 0x11, x := 0x22, ireg := 0x1111, sp := 0xFD, p := 0x80 })
    (fun t => ([t.a, t.x, t.sp, t.p], [t.ireg, t.pc])) = some (([0x00, 0x00, 0xFF, 0x02], [0x0000, 0x2201]), 6) := by decide

theorem test_v49_1_clc : outcome (place 0x2200 [0x18] [] { zeros with p := 0xFF })
    (fun t => (t.p, t.pc)) = some ((0xFE, 0x2201), 2) := by decide

theorem test_v49_2_sec : outcome (place 0x2200 [0x38] [] { zeros with p := 0x00 })
    (fun t => (t.p, t.pc)) = some ((0x01, 0x2201), 2) := by decide

theorem test_v49_3_cld : outcome (place 0x2200 [0xD8] [] { zeros with p := 0xFF })
    (fun t => (t.p, t.pc)) = some ((0xF7, 0x2201), 2) := by decide

theorem test_v49_4_sed : outcome (place 0x2200 [0xF8] [] { zeros with p := 0x00 })
    (fun t => (t.p, t.pc)) = some ((0x08, 0x2201), 2) := by decide

theorem test_v49_5_cli : outcome (place 0x2200 [0x58] [] { zeros with p := 0xFF })
    (fun t => (t.p, t.pc)) = some ((0xFB, 0x2201), 2) := by decide

theorem test_v49_6_sei : outcome (place 0x2200 [0x78] [] { zeros with p := 0x00 })
    (fun t => (t.p, t.pc)) = some ((0x04, 0x2201), 2) := by decide

theorem test_v49_7_clv : outcome (place 0x2200 [0xB8] [] { zeros with p := 0xFF })
    (fun t => (t.p, t.pc)) = some ((0xBF, 0x2201), 2) := by decide

theorem test_v49_8_nop : outcome (place 0x2200 [0xEA] [] { zeros with p := 0xA5 })
    (fun t => (t.p, t.pc)) = some ((0xA5, 0x2201), 2) := by decide

theorem test_v49_9_brk :
    outcome (place 0x2200 [0x00] [(0xFFFC, [0x00, 0x90]), (0xFFF0, [0x00, 0xA0])] { zeros with sp := 0xFF, p := 0x01 })
    (fun t => ([t.sp, t.p, t.read 0x01FD, t.read 0x01FE, t.read 0x01FF], [t.pc])) = some (([0xFC, 0x15, 0x01, 0x01, 0x22], [0x9000]), 7) := by decide

theorem test_v49_11_brk : outcome (place 0x2200 [0x00] [(0xFFFC, [0x00, 0x90])] { zeros with sp := 0x01, p := 0xDB })
    (fun t => ([t.sp, t.p, t.read 0x0100, t.read 0x0101, t.read 0x01FF], [t.pc])) = some (([0xFE, 0xDF, 0x01, 0x22, 0xDB], [0x9000]), 7) := by decide

theorem test_v49_12_rti : outcome (place 0x3300 [0x40] [(0x01FD, [0xFF, 0x02, 0x22])] { zeros with sp := 0xFC, p := 0x00 })
    (fun t => (t.sp, t.p, t.pc)) = some ((0xFF, 0xCF, 0x2202), 6) := by decide

theorem test_v49_13_rti : outcome (place 0x3300 [0x40] [(0x01FD, [0x00, 0x02, 0x22])] { zeros with sp := 0xFC, p := 0x34 })
    (fun t => (t.sp, t.p, t.pc)) = some ((0xFF, 0x30, 0x2202), 6) := by decide

theorem test_R182_ldyZp : outcome (place 0x2200 [0xA4, 0x10] [(0x0010, [0x80])] { zeros with y := 0x55, p := 0x02 })
    (fun t => (t.y, t.p, t.pc)) = some ((0x80, 0x80, 0x2202), 3) := by decide

theorem test_R184_stxZpY : outcome (place 0x2200 [0x96, 0xF0] [] { zeros with x := 0x7E, y := 0x20, p := 0x82 })
    (fun t => (t.read 0x0010, t.p, t.pc)) = some ((0x7E, 0x82, 0x2202), 4) := by decide

theorem test_R185_styAbs : outcome (place 0x2200 [0x8C, 0x34, 0x12] [] { zeros with y := 0x99, p := 0x02 })
    (fun t => (t.read 0x1234, t.p, t.pc)) = some ((0x99, 0x02, 0x2203), 4) := by decide

theorem test_R187_tax : outcome (place 0x2200 [0xAA] [] { zeros with a := 0x80, x := 0x01, p := 0x02 })
    (fun t => (t.x, t.a, t.p)) = some ((0x80, 0x80, 0x80), 2) := by decide

theorem test_R188_tay : outcome (place 0x2200 [0xA8] [] { zeros with y := 0x01, p := 0x80 })
    (fun t => (t.y, t.p)) = some ((0x00, 0x02), 2) := by decide

theorem test_R190_tya : outcome (place 0x2200 [0x98] [] { zeros with a := 0x01, y := 0xFF })
    (fun t => (t.a, t.p)) = some ((0xFF, 0x80), 2) := by decide

theorem test_R238_iny : outcome (place 0x2200 [0xC8] [] { zeros with y := 0xFF, p := 0x80 })
    (fun t => (t.y, t.p)) = some ((0x00, 0x02), 2) := by decide

theorem test_R239_dex : outcome (place 0x2200 [0xCA] [] { zeros with p := 0x02 })
    (fun t => (t.x, t.p)) = some ((0xFF, 0x80), 2) := by decide

/-! ## Stops, events and reset (V30, V49-10, V60, V70) -/

theorem test_v30_1_fault : (match step (place 0x2200 [0x04] [] zeros) with
    | .fault f => decide (f = .illegalOpcode 0x2200 0x04)
    | .next _ => false
    | .refused _ => false) = true := by decide

/-- The other values of the parameters of BRK. -/
theorem test_v49_10_brk_parameters :
    (let t := (place 0x2200 [0x00] [(0xFFFC, [0x00, 0x90]), (0xFFF0, [0x00, 0xA0])]
      { zeros with sp := 0xFF, p := 0x01 }).breakEntry 0xFFF0 2 false
    (t.pc, [t.p, t.sp, t.read 0x01FF, t.read 0x01FE, t.read 0x01FD])) = (0xA000, [0x15, 0xFC, 0x22, 0x02, 0x01]) := by decide

theorem test_v60_1_nmi : after (place 0x2200 [] [(0xFFFC, [0x00, 0x80])] { zeros with sp := 0xFF, p := 0x09, nmiRequest := true })
    (fun t => (t.pc, [t.p, t.sp, t.read 0x01FF, t.read 0x01FE, t.read 0x01FD], t.nmiRequest)) =
      some (0x8000, [0x0D, 0xFC, 0x22, 0x00, 0x09], false) := by decide

theorem test_v60_2_nmi_masked : after (place 0x2200 [] [(0xFFFC, [0x00, 0x80])] { zeros with sp := 0xFF, p := 0x1D, nmiRequest := true })
    (fun t => (t.pc, t.p, t.read 0x01FD)) = some (0x8000, 0x1D, 0x1D) := by decide

theorem test_v60_3_irq_masked : after (place 0x2200 [0xEA] [] { zeros with p := 0x04, irqRequests := [2] })
    (fun t => (t.pc, t.irqRequests)) = some (0x2201, [2]) := by decide

theorem test_v60_4_irq_entry :
    (let t := (place 0x2200 [] [(0xFFFA, [0x34, 0x12])] { zeros with sp := 0xFF }).interruptEntry 0xFFFA
    (t.pc, t.p, t.sp, t.read 0x01FF)) = (0x1234, 0x04, 0xFC, 0x22) := by decide

theorem test_v60_5_nmi_before_brk : after (place 0x2200 [0x00] [(0xFFFC, [0x00, 0x80])] { zeros with sp := 0xFF, nmiRequest := true })
    (fun t => (t.pc, t.p, t.read 0x01FE)) = some (0x8000, 0x04, 0x00) := by decide

/-- The step after the CLI: the interrupt is entered at once. -/
theorem test_v60_6_after_cli : after (place 0x2201 [0xEA] [] { zeros with sp := 0xFF, irqRequests := [0] })
    (fun t => (t.p, t.read 0x01FF, t.read 0x01FE, t.read 0x01FD)) = some (0x04, 0x22, 0x01, 0x00) := by decide

theorem test_v70_2_reset_in_a_run : after (place 0x2200 [0xEA] [(0xFFFE, [0x00, 0x20])] { zeros with p := 0x08, resetRequest := true })
    (fun t => (t.pc, t.resetRequest, t.read 0x2200)) = some (0x2000, false, 0xEA) := by decide

/-! ## RAM and ROM (R68) and the end of a run (R484) -/

/-- ROM from 0x1000 to 0x1FFF. -/
def withRom : State := place 0x2200 [0xE6, 0x10] [(0x1000, [0xFF])] { zeros with rom := [⟨0x1000, 0x1FFF⟩] }

/-- The bytes next to the region and at its two ends. -/
theorem test_R68_rom_write : (let t := (((withRom.write 0x0FFF 0x11).write 0x1000 0x22).write 0x1FFF 0x33).write 0x2000 0x44
    [t.read 0x0FFF, t.read 0x1000, t.read 0x1FFF, t.read 0x2000]) = [0x11, 0xFF, 0x00, 0x44] := by decide

/-- INC of a ROM byte: N and Z of the result, the byte as it was. -/
theorem test_R68_inc_rom : after (place 0x2200 [0xEE, 0x00, 0x10] [] withRom) (fun t => (t.pc, t.p, t.read 0x1000)) =
    some (0x2203, 0x02, 0xFF) := by decide

/-- A push on a stack in ROM: S moves, the byte stays. -/
theorem test_R68_push_rom : after (place 0x2200 [0x48] [] { zeros with a := 0x77, sp := 0x80, rom := [⟨0x0100, 0x01FF⟩] })
    (fun t => (t.sp, t.read 0x0180)) = some (0x7F, 0x00) := by decide

/-- BRK with no handler, a Not Used code, and the machine right after reset are not the end of a run; BRA to itself is. -/
theorem test_R484_run_ended : runEnded (place 0x0000 [0x00] [] zeros) = false ∧ runEnded (place 0x2200 [0x04] [] zeros) = false ∧
    runEnded State.reset = false ∧ runEnded (place 0x2200 [0x80, 0xFE] [] zeros) = true := by decide

/-! ## Bus sequences of Appendix C (R80; A3, A10, A12) and the assembly language form (R112) -/

theorem test_a3_branch_back_over_a_page : busSequence (.bcc 0xB0) { zeros with pc := 0x2200 } =
    [.read 0x2201, .ignored 0x2202, .ignored 0x22B2] := by decide

theorem test_a10_pli : busSequence .pli (place 0x2200 [] [(0x01FE, [0x34, 0x12])] { zeros with sp := 0xFD }) =
    [.ignored 0x2201, .ignored 0x01FD, .read 0x01FE, .read 0x01FF, .ignored 0x1234] := by decide

theorem test_a12_jsr : busSequence (.jsr 0x3300) { zeros with pc := 0x2200, sp := 0xFF } =
    [.read 0x2201, .read 0x2202, .write 0x01FF 0x22, .write 0x01FE 0x03] := by decide

theorem test_assembly_bar : Instr.assembly 0x2200 (.bar 0x4000 0x06 0x10) = "BAR $4000,$06,$2215" := by decide

/-! ## The host's two questions, on one word -/

theorem test_table_word : decodeTableWord 32 0x40000FC2 = some (.rba 0x0F 0x4000) := by decide

theorem test_fetch_word_after_reset : after (State.reset.withFetchWord 16 0x80A9) (fun t => (t.a, t.p, t.pc)) =
    some (0x80, 0x84, 0x0002) := by decide

/-! ## Witnesses: a state and operands that meet the hypotheses of each obligation -/

/-- LDA #$80 at 0x2200. -/
def lda80 : State := place 0x2200 [0xA9, 0x80] [] zeros

theorem test_witness_DecodedBytesAreTheEncoding : decode [0xA9, 0x80, 0xEA] = .ok (.ldaImm 0x80, [0xEA]) ∧
    wellFormedCode [0xA9, 0x80] = true ∧ decode [0xA9, 0x80] = .ok (.ldaImm 0x80, []) := by decide

theorem test_witness_NotUsedCodesAreTheTwentySeven : decode [0x04, 0x00] = .error (.notUsed 0x04) ∧ (0x04 : Byte) ∈ notUsedCodes := by
  decide

theorem test_witness_StepRunsTheDecodedInstruction : lda80.acceptedEvent = none ∧
    (∀ k, k < ([0xA9, 0x80] : List Byte).length → lda80.read (lda80.pc + BitVec.ofNat 16 k) = ([0xA9, 0x80] : List Byte).getD k 0) ∧
    decode [0xA9, 0x80] = .ok (.ldaImm 0x80, []) := by decide

theorem test_witness_OnlyNotUsedCodesStopTheMachine : (place 0x2200 [0x04] [] zeros).acceptedEvent = none ∧
    (place 0x2200 [0x04] [] zeros).read (place 0x2200 [0x04] [] zeros).pc ∈ notUsedCodes := by decide

/-- The four clauses of BoundaryOrder; the last with P.I = 1 and with no request. -/
theorem test_witness_BoundaryOrder :
    { zeros with resetRequest := true, nmiRequest := true }.resetRequest = true ∧
    ({ zeros with nmiRequest := true, irqRequests := [0] }.resetRequest = false ∧
      { zeros with nmiRequest := true, irqRequests := [0] }.nmiRequest = true) ∧
    (∀ other ∈ { zeros with irqRequests := [3, 0, 2] }.irqRequests, 0 ≤ other) ∧
    0 ∈ { zeros with irqRequests := [3, 0, 2] }.irqRequests ∧ { zeros with irqRequests := [3, 0, 2] }.flag .i = false ∧
    { zeros with p := 0x04, irqRequests := [0] }.flag .i = true ∧ zeros.irqRequests = [] := by decide

theorem test_witness_StartSequenceEffect : { zeros with resetRequest := true }.resetRequest = true := by decide

theorem test_witness_MemoryStaysCanonical : (place 0x2200 [0x85, 0x10] [] { zeros with a := 0x01 }).mem.wf = true ∧
    ∃ t, step (place 0x2200 [0x85, 0x10] [] { zeros with a := 0x01 }) = .next t :=
  ⟨by decide, step_of_runs (by decide)⟩

/-- B = 1 before the step; and B = 0 before and 1 after it. -/
theorem test_witness_BreakFlagAndBitFiveLife :
    ({ lda80 with p := 0x10 }.flag .b = true ∧ ∃ t, step { lda80 with p := 0x10 } = .next t) ∧
    ((place 0x2200 [0x00] [] zeros).flag .b = false ∧ (place 0x2200 [0x00] [] zeros).resetRequest = false ∧
      after (place 0x2200 [0x00] [] zeros) (fun t => t.flag .b) = some true) :=
  ⟨⟨by decide, step_of_runs (by decide)⟩, by decide⟩

theorem test_witness_RegistersAreWrittenOnlyByTheirWriters :
    (∃ t, exec (.ldaImm 0x80) zeros = .next t) ∧ (Instr.ldaImm 0x80).mnemonic ∉ regWriters .x :=
  ⟨⟨_, rfl⟩, by decide⟩

theorem test_witness_FlagsAreWrittenOnlyByTheirWriters :
    (∃ t, exec (.ldaImm 0x80) zeros = .next t) ∧ (Instr.ldaImm 0x80).mnemonic ∉ flagWriters .c :=
  ⟨⟨_, rfl⟩, by decide⟩

/-- The three clauses: no store and no push; a push and the pages beside 01; a zero page store and page 01. -/
theorem test_witness_MemoryIsWrittenOnlyByStoresAndPushes :
    ((∃ t, exec (.ldaImm 0x80) zeros = .next t) ∧ (Instr.ldaImm 0x80).mnemonic ∉ storeMnemonics ∧
      (Instr.ldaImm 0x80).mnemonic ∉ pushMnemonics) ∧
    ((∃ t, exec .pha zeros = .next t) ∧ Instr.pha.mnemonic ∈ pushMnemonics ∧ hiByte 0x00FF ≠ 0x01 ∧ hiByte 0x0200 ≠ 0x01) ∧
    ((∃ t, exec (.sti 0x5A 0xFF) zeros = .next t) ∧ (Instr.sti 0x5A 0xFF).mnemonic ∈ zeroPageStores ∧ hiByte 0x0100 ≠ 0x00) :=
  ⟨⟨⟨_, rfl⟩, by decide⟩, ⟨⟨_, rfl⟩, by decide⟩, ⟨⟨_, rfl⟩, by decide⟩⟩

theorem test_witness_EveryInstructionCompletes : Instr.nop.mnemonic ∉ controlTransfers ∧ Instr.rts.mnemonic ∈ controlTransfers := by
  decide

/-- The lists of encoding lines are not empty: the number of operation codes each mnemonic has (R108). For
LoadsWriteTheRegisterAndNZ, StoresWriteOneByteAndNothingElse, AddAndSubtractForms, LogicIsBitwise, ComparesAndBitTestSetFlagsOnly,
IncrementsAndDecrements, LeftShiftsAndRotates, RightShiftsAndRotates and RelativeBranches. -/
theorem test_witness_lines (n : Byte) (nn : Word) (s : State) :
    (linesLda n nn s).length = 8 ∧ (linesLdx n nn s).length = 5 ∧ (linesLdy n nn s).length = 5 ∧ (linesAdc n nn s).length = 8 ∧
    (linesAdd n nn s).length = 3 ∧ (linesSbc n nn s).length = 8 ∧ (linesAnd n nn s).length = 8 ∧ (linesOra n nn s).length = 8 ∧
    (linesEor n nn s).length = 8 ∧ (linesCmp n nn s).length = 8 ∧ (linesCpx n nn s).length = 3 ∧ (linesCpy n nn s).length = 3 ∧
    (linesBit n nn s).length = 2 ∧ (linesSta n nn s).length = 7 ∧ (linesStx n nn s).length = 3 ∧ (linesSty n nn s).length = 3 ∧
    (linesInc n nn s).length = 4 ∧ (linesDec n nn s).length = 4 ∧ (linesAsl n nn s).length = 4 ∧ (linesLsr n nn s).length = 4 ∧
    (linesRol n nn s).length = 4 ∧ (linesRor n nn s).length = 4 ∧ (conditionalBranches n s).length = 8 :=
  ⟨rfl, rfl, rfl, rfl, rfl, rfl, rfl, rfl, rfl, rfl, rfl, rfl, rfl, rfl, rfl, rfl, rfl, rfl, rfl, rfl, rfl, rfl, rfl⟩

/-- Every address of `zeros` is RAM: the bytes stored by the statements whose clauses are about RAM (`Stored`, or isRom = false):
StoresWriteOneByteAndNothingElse, ExchangeSwapsAAndTheByte, IncrementsAndDecrements, LeftShiftsAndRotates, RightShiftsAndRotates,
MemoryBitsAreSetAndReset, MaskedBitsAreSetAndReset, MovesOfW, CallsAndReturn, PushesStoreAndDecrementS, StackingOfI,
InterruptEntryEffect, BreakEntryEffect, ReturnUndoesExceptionEntry, ReturnUndoesCall, PullsUndoPushes. -/
theorem test_witness_ram (addr : Word) : zeros.isRom addr = false := rfl

/-- The same with ROM elsewhere: the stack bytes are RAM up to both ends of page 01, and the code may be ROM. -/
theorem test_witness_ram_beside_rom : (let s : State := { zeros with sp := 0x01, rom := [⟨0xE000, 0xFFFF⟩, ⟨0x0000, 0x00FF⟩] }
    s.isRom 0xE000 && s.isRom 0x00FF &&
      [stackAddr s.sp, stackAddr (s.sp - 1), stackAddr (s.sp - 2)].all (fun addr => !s.isRom addr)) = true := by decide

/-- ROM at both ends of a region, RAM beside it; a store to ROM completes, and so does a step. -/
theorem test_witness_WritesReachRamAndNotRom : withRom.isRom 0x1000 = true ∧ withRom.isRom 0x1FFF = true ∧
    withRom.isRom 0x0FFF = false ∧ withRom.isRom 0x2000 = false ∧ (∃ t, exec (.staAbs 0x1000) withRom = .next t) ∧
    ∃ t, step withRom = .next t :=
  ⟨by decide, by decide, by decide, by decide, ⟨_, rfl⟩, step_of_runs (by decide)⟩

/-- The flags PLP and RTI load (ReturnFromInterruptEffect, PullsIncrementSAndLoad), and a flag instruction of the list of
FlagInstructionsAndNop. -/
theorem test_witness_flag_lists : Flag.n ∈ [Flag.n, .v, .d, .i, .z, .c] ∧ Flag.c ∈ [Flag.n, .v, .d, .i, .z, .c] ∧
    (Instr.clc, (0x18 : Byte), Flag.c, false) ∈ [(Instr.clc, (0x18 : Byte), Flag.c, false), (.clv, 0xB8, .v, false)] := by decide

/-- Packed BCD bytes at both ends of the range. -/
theorem test_witness_AddDecimalIsTheDecimalSum : validBcd 0x99 = true ∧ validBcd 0x00 = true ∧
    (addDecimal 0x99 0x99 true).r = 0x99 ∧ (addDecimal 0x99 0x99 true).c = true := by decide

theorem test_witness_SubDecimalIsTheDecimalDifference : validBcd 0x00 = true ∧ validBcd 0x99 = true ∧
    (subDecimal 0x00 0x99 false).r = 0x00 ∧ (subDecimal 0x00 0x99 false).c = false := by decide

/-- The clauses of ArithmeticOutcome: binary; decimal on BCD bytes; decimal on bytes that are just not BCD. -/
theorem test_witness_AddAndSubtractForms : zeros.flag .d = false ∧
    ({ zeros with p := 0x08, a := 0x99 }.flag .d = true ∧ validBcd { zeros with p := 0x08, a := 0x99 }.a = true ∧ validBcd 0x90 = true) ∧
    ({ zeros with p := 0x08, a := 0x9A }.flag .d = true ∧ validBcd { zeros with p := 0x08, a := 0x9A }.a = false ∧ validBcd 0xA0 = false) := by
  decide

/-- The last W that rounds without overflow, and the first that overflows. -/
theorem test_witness_RoundAddsHalf : ((0x7F7F : Word).toInt + 128) / 256 ≤ 127 ∧ ¬ ((0x7F80 : Word).toInt + 128) / 256 ≤ 127 := by
  decide

theorem test_witness_BusAccessesCountTheCycles : Instr.nop.mnemonic ∉ bitBranches ∧ (Instr.bra 0x00).mnemonic ∉ bitBranches := by
  decide

theorem test_witness_BusWritesAreTheMemoryEffect : ∃ t, exec .psh zeros = .next t := ⟨_, rfl⟩

theorem test_witness_StoreIsSeenByTheNextFetch :
    (∃ t, exec (.staAbs (0x2200 + 3)) { zeros with a := 0xEA, pc := 0x2200 } = .next t ∧ t.acceptedEvent = none) ∧
    encode .nop = [{ zeros with a := 0xEA, pc := 0x2200 }.a] ∧ { zeros with a := 0xEA, pc := 0x2200 }.isRom (0x2200 + 3) = false :=
  ⟨⟨_, rfl, by decide⟩, by decide, by decide⟩

/-- Both forms of the end of a run (that runEnded holds of such a state: test_R484_run_ended). -/
theorem test_witness_SelfBranchIsTheEndOfARun :
    ((place 0x2200 [0x80, 0xFE] [] zeros).acceptedEvent = none ∧ CodeAtPc (.bra 0xFE) (place 0x2200 [0x80, 0xFE] [] zeros)) ∧
    ((place 0x2200 [0x4C, 0x00, 0x22] [] zeros).acceptedEvent = none ∧
      CodeAtPc (.jmpAbs (place 0x2200 [0x4C, 0x00, 0x22] [] zeros).pc) (place 0x2200 [0x4C, 0x00, 0x22] [] zeros)) := by
  unfold CodeAtPc
  decide

end Sys2Proof.Tests
end

/-! SUPPORT. The opcode map and the decoder's refusal of the codes that are Not Used (30_encoding.md R108, R109). -/

namespace Sys2Proof

/-! ## What the decoder answers, by the cell of the opcode map -/

theorem decode_cons_of_lookup_none {op : Byte} (h : lookupOpcode op = none) (rest : List Byte) :
    decode (op :: rest) = .error (.notUsed op) := by
  simp only [decode, h]

theorem decode_cons_of_lookup_some {op : Byte} {form : Form} (h : lookupOpcode op = some form) (rest : List Byte) :
    decode (op :: rest) = if (op :: rest).length < form.length then .error .tooShort
      else .ok (form.assemble (fun k => (op :: rest).getD k 0), (op :: rest).drop form.length) := by
  simp only [decode, h]

/-- A filled cell leads to an instruction or to `tooShort`, never to `notUsed`. -/
theorem decode_cons_eq_notUsed_iff (op : Byte) (rest : List Byte) :
    decode (op :: rest) = .error (.notUsed op) ↔ lookupOpcode op = none := by
  refine ⟨fun refused => ?_, fun blank => decode_cons_of_lookup_none blank rest⟩
  cases cell : lookupOpcode op with
  | none => rfl
  | some form =>
    rw [decode_cons_of_lookup_some cell] at refused
    split at refused <;> simp at refused

/-! ## The blank cells of the opcode map -/

/-- The map of R108 read row by row: a row is the high digit of the operation code, a column the low one. -/
theorem lookupOpcode_row_col_isNone (row col : Fin 16) :
    (lookupOpcode (BitVec.ofNat 8 (16 * row + col))).isNone =
      decide (BitVec.ofNat 8 (16 * row + col) ∈ Machine.notUsedCodes) := by
  revert col
  fin_cases row <;> decide

theorem lookupOpcode_eq_none_iff (op : Byte) : lookupOpcode op = none ↔ op ∈ Machine.notUsedCodes := by
  have digits : BitVec.ofNat 8 (16 * (op.toNat / 16) + op.toNat % 16) = op := by
    rw [Nat.div_add_mod, BitVec.ofNat_toNat, BitVec.setWidth_eq]
  have cell := lookupOpcode_row_col_isNone ⟨op.toNat / 16, by omega⟩ ⟨op.toNat % 16, by omega⟩
  rw [digits] at cell
  rw [← Option.isNone_iff_eq_none, cell, decide_eq_true_iff]

theorem decode_clw : decode [0x52] = .ok (.clw, []) := rfl

theorem decode_eorIndX (n : Byte) : decode [0x51, n] = .ok (.eorIndX n, []) := rfl

/-- Settles O4: the decoder refuses a code as Not Used exactly at a blank cell of the opcode map, and the blank cells are the 27
codes of R109. -/
theorem notUsedCodesAreTheTwentySeven : Obligations.NotUsedCodesAreTheTwentySeven := by
  refine ⟨fun op rest => ?_, rfl, by decide, decode_clw, decode_eorIndX⟩
  calc decode (op :: rest) = .error (.notUsed op)
      ↔ lookupOpcode op = none := decode_cons_eq_notUsed_iff op rest
    _ ↔ op ∈ Machine.notUsedCodes := lookupOpcode_eq_none_iff op

end Sys2Proof

/-! SUPPORT. Loads, stores, transfers and the exchange, line by line (41_load_store_transfer.md). -/

namespace Sys2Proof.Machine

/-! ## An encoding line and the meaning of its instruction -/

/-- The line is as printed, and its instruction's meaning in this state is `r`. -/
def Line.means {α : Type} (l : Line α) (s : State) (r : Result) : Prop := l.holds s ∧ exec l.instr s = r

/-- A line whose meaning goes on at the next instruction completes there. -/
theorem Line.means.does {α : Type} {l : Line α} {s t : State} {Q : State → Prop} (h : l.means s (.next t))
    (hpc : t.pc = l.after s) (hQ : Q t) : l.does s Q :=
  ⟨h.1, t, h.2, hpc, hQ⟩

theorem loadA_does {α : Type} {l : Line α} {s : State} {m : Byte} (h : l.means s (loadA m l.bytes.length s)) :
    l.does s fun t => t.a = m ∧ FlagsNZ m t ∧ Frame [.a] [.n, .z] [] s t := by
  obtain ⟨ha, hnz, hpc, -, hframe⟩ := loadA_next (s := s) (m := m) (len := l.bytes.length) rfl
  exact h.does hpc ⟨ha, hnz, hframe⟩

theorem loadX_does {α : Type} {l : Line α} {s : State} {m : Byte} (h : l.means s (loadX m l.bytes.length s)) :
    l.does s fun t => t.x = m ∧ FlagsNZ m t ∧ Frame [.x] [.n, .z] [] s t := by
  obtain ⟨hx, hnz, hpc, -, hframe⟩ := loadX_next (s := s) (m := m) (len := l.bytes.length) rfl
  exact h.does hpc ⟨hx, hnz, hframe⟩

theorem loadY_does {α : Type} {l : Line α} {s : State} {m : Byte} (h : l.means s (loadY m l.bytes.length s)) :
    l.does s fun t => t.y = m ∧ FlagsNZ m t ∧ Frame [.y] [.n, .z] [] s t := by
  obtain ⟨hy, hnz, hpc, -, hframe⟩ := loadY_next (s := s) (m := m) (len := l.bytes.length) rfl
  exact h.does hpc ⟨hy, hnz, hframe⟩

theorem storeByte_does {α : Type} {l : Line α} {s : State} {ea : Word} {v : Byte}
    (h : l.means s (storeByte ea v l.bytes.length s)) :
    l.does s fun t => Stored ea v s t ∧ Frame [] [] [ea] s t := by
  obtain ⟨hstored, hpc, -, hframe⟩ := storeByte_next (s := s) (ea := ea) (v := v) (len := l.bytes.length) rfl
  exact h.does hpc ⟨hstored, hframe⟩

/-! ## The lines of the loads and stores

Every line of a mnemonic has the same meaning, at the line's own operand and length. -/

theorem linesLda_means (n : Byte) (nn : Word) (s : State) :
    ∀ l ∈ linesLda n nn s, l.means s (loadA l.operand l.bytes.length s) := by
  simp only [linesLda, List.forall_mem_cons]
  refine ⟨?imm, ?zp, ?zpX, ?abs, ?absX, ?absY, ?ind, ?indX, List.forall_mem_nil _⟩ <;> exact ⟨⟨rfl, rfl, rfl⟩, rfl⟩

theorem linesLdx_means (n : Byte) (nn : Word) (s : State) :
    ∀ l ∈ linesLdx n nn s, l.means s (loadX l.operand l.bytes.length s) := by
  simp only [linesLdx, List.forall_mem_cons]
  refine ⟨?imm, ?zp, ?zpY, ?abs, ?absY, List.forall_mem_nil _⟩ <;> exact ⟨⟨rfl, rfl, rfl⟩, rfl⟩

theorem linesLdy_means (n : Byte) (nn : Word) (s : State) :
    ∀ l ∈ linesLdy n nn s, l.means s (loadY l.operand l.bytes.length s) := by
  simp only [linesLdy, List.forall_mem_cons]
  refine ⟨?imm, ?zp, ?zpX, ?abs, ?absX, List.forall_mem_nil _⟩ <;> exact ⟨⟨rfl, rfl, rfl⟩, rfl⟩

theorem linesSta_means (n : Byte) (nn : Word) (s : State) :
    ∀ l ∈ linesSta n nn s, l.means s (storeByte l.operand s.a l.bytes.length s) := by
  simp only [linesSta, List.forall_mem_cons]
  refine ⟨?zp, ?zpX, ?abs, ?absX, ?absY, ?ind, ?indX, List.forall_mem_nil _⟩ <;> exact ⟨⟨rfl, rfl, rfl⟩, rfl⟩

theorem linesStx_means (n : Byte) (nn : Word) (s : State) :
    ∀ l ∈ linesStx n nn s, l.means s (storeByte l.operand s.x l.bytes.length s) := by
  simp only [linesStx, List.forall_mem_cons]
  refine ⟨?zp, ?zpY, ?abs, List.forall_mem_nil _⟩ <;> exact ⟨⟨rfl, rfl, rfl⟩, rfl⟩

theorem linesSty_means (n : Byte) (nn : Word) (s : State) :
    ∀ l ∈ linesSty n nn s, l.means s (storeByte l.operand s.y l.bytes.length s) := by
  simp only [linesSty, List.forall_mem_cons]
  refine ⟨?zp, ?zpX, ?abs, List.forall_mem_nil _⟩ <;> exact ⟨⟨rfl, rfl, rfl⟩, rfl⟩

/-- Settles O21: each line is `loadA`, `loadX` or `loadY` of its operand. -/
theorem loadsWriteTheRegisterAndNZ : Obligations.LoadsWriteTheRegisterAndNZ := fun n nn s =>
  ⟨fun l hl => loadA_does (linesLda_means n nn s l hl), fun l hl => loadX_does (linesLdx_means n nn s l hl),
    fun l hl => loadY_does (linesLdy_means n nn s l hl)⟩

/-- Settles O22: each line is `storeByte` of its register at its operand; STI is `storeByte` of its data byte. -/
theorem storesWriteOneByteAndNothingElse : Obligations.StoresWriteOneByteAndNothingElse := fun n _ nn s =>
  ⟨fun l hl => storeByte_does (linesSta_means n nn s l hl), fun l hl => storeByte_does (linesStx_means n nn s l hl),
    fun l hl => storeByte_does (linesSty_means n nn s l hl), storeByte_does ⟨⟨rfl, rfl, rfl⟩, rfl⟩⟩

/-! ## Transfers and the exchange -/

theorem setA_frame (s : State) (v : Byte) : Frame [.a] [] [] s (s.setA v) := by
  refine ⟨?_, fun f _ => rfl, KeepsMemory.of_mem_eq rfl, rfl, rfl, rfl, rfl⟩
  apply KeepsRegs.of_eq <;> simp

theorem setSp_frame (s : State) (v : Byte) : Frame [.s] [] [] s (s.setSp v) := by
  refine ⟨?_, fun f _ => rfl, KeepsMemory.of_mem_eq rfl, rfl, rfl, rfl, rfl⟩
  apply KeepsRegs.of_eq <;> simp

theorem exec_txs (s : State) : exec .txs s = .next ((s.setSp s.x).advance 1) := rfl

theorem exec_exc (n : Byte) (s : State) :
    exec (.exc n) s = .next (((s.write (eaZpX n s) s.a).setA (s.read (eaZpX n s))).advance 2) := rfl

/-- Settles O23: five of the transfers are loads of the source register; TXS writes S alone. -/
theorem transfersCopyOneRegister : Obligations.TransfersCopyOneRegister := by
  intro s
  refine ⟨loadX_does ?tax, loadY_does ?tay, loadA_does ?txa, loadA_does ?tya, loadX_does ?tsx, ?txs⟩
  case txs => exact Line.means.does ⟨⟨rfl, rfl, rfl⟩, exec_txs s⟩ rfl ⟨rfl, (setSp_frame s s.x).advance 1⟩
  all_goals exact ⟨⟨rfl, rfl, rfl⟩, rfl⟩

/-- Replacing A after a write keeps the byte written and changes nothing else: the two effects of EXC (R193). -/
theorem write_setA_spec (s : State) (ea : Word) (v m : Byte) :
    Stored ea v s ((s.write ea v).setA m) ∧ Frame [.a] [] [ea] s ((s.write ea v).setA m) := by
  obtain ⟨hstored, hwrite⟩ := write_spec s ea v
  exact ⟨hstored.of_read rfl, hwrite.trans (setA_frame (s.write ea v) m)⟩

/-- Settles O24: the byte is read before the old A is written over it, and no flag follows either of them. -/
theorem exchangeSwapsAAndTheByte : Obligations.ExchangeSwapsAAndTheByte := by
  intro n s
  obtain ⟨hstored, hframe⟩ := write_setA_spec s (eaZpX n s) s.a (s.read (eaZpX n s))
  exact Line.means.does ⟨⟨rfl, rfl, rfl⟩, exec_exc n s⟩ rfl ⟨rfl, hstored.of_read rfl, hframe.advance 2⟩

end Sys2Proof.Machine

/-! SUPPORT. The addition and subtraction functions as numbers, and logic, compare, increment, decrement, negate and absolute value
line by line (42_arithmetic_logic.md). -/

namespace Sys2Proof.Machine

/-! ## The sign and the zero of a byte -/

theorem msb_eq_bit_seven (b : Byte) : b.msb = b.getLsbD 7 := BitVec.msb_eq_getLsbD_last b

theorem beq_zero_eq_decide_toNat (b : Byte) : (b == 0) = decide (b.toNat = 0) := by
  rw [Bool.beq_eq_decide_eq, decide_eq_decide, ← BitVec.toNat_inj]
  rfl

/-- The overflow of two's complement addition: equal signs of the operands, another sign of the result, exactly when the signed sum
is no signed byte (R220). -/
theorem overflow_eq_sum_out_of_range {a m r : Byte} {cin : Bool} (hr : r.toNat = (a.toNat + m.toNat + cin.toNat) % 256) :
    ((a.msb == m.msb) && (r.msb != a.msb)) =
      decide (a.toInt + m.toInt + cin.toNat < -128 ∨ a.toInt + m.toInt + cin.toNat > 127) := by
  have hcin := cin.toNat_lt
  have ha := a.isLt
  have hm := m.isLt
  rw [Bool.eq_iff_iff]
  simp only [BitVec.msb_eq_decide, BitVec.toInt_eq_toNat_cond, Bool.and_eq_true, beq_iff_eq, bne_iff_ne, ne_eq, decide_eq_decide,
    decide_eq_true_eq]
  split <;> split <;> omega

/-! ## Binary addition and subtraction (R220, R222) -/

theorem addBinary_r_toNat (a m : Byte) (cin : Bool) :
    (addBinary a m cin).r.toNat = (a.toNat + m.toNat + cin.toNat) % 256 := BitVec.toNat_ofNat _ 8

theorem addBinary_v (a m : Byte) (cin : Bool) : (addBinary a m cin).v =
    decide (a.toInt + m.toInt + cin.toNat < -128 ∨ a.toInt + m.toInt + cin.toNat > 127) :=
  overflow_eq_sum_out_of_range (addBinary_r_toNat a m cin)

theorem addBinary_v_signs (a m : Byte) (cin : Bool) : (addBinary a m cin).v =
    (decide (a.getLsbD 7 = m.getLsbD 7) && decide ((addBinary a m cin).r.getLsbD 7 ≠ a.getLsbD 7)) := by
  simp only [← msb_eq_bit_seven, addBinary, Bool.beq_eq_decide_eq, bne, ne_eq, decide_not]

/-- Settles O25: the byte, V in its two readings, and N and Z of the result are the lemmas above; C is the definition's. -/
theorem addBinaryIsTheSum : Obligations.AddBinaryIsTheSum := fun a m cin =>
  ⟨addBinary_r_toNat a m cin, rfl, addBinary_v a m cin, addBinary_v_signs a m cin, msb_eq_bit_seven _,
    beq_zero_eq_decide_toNat _⟩

theorem subBinary_r_toNat (a m : Byte) (cin : Bool) :
    ((subBinary a m cin).r.toNat : Int) = ((a.toNat : Int) - m.toNat - (1 - (cin.toNat : Int))) % 256 := by
  rw [subBinary, BitVec.toNat_ofInt, Int.toNat_of_nonneg (Int.emod_nonneg _ (by decide))]
  rfl

theorem toInt_complement (m : Byte) : (~~~m).toInt = -m.toInt - 1 := by
  have hm := m.isLt
  simp only [BitVec.toInt_eq_toNat_cond, BitVec.toNat_not]
  split <;> split <;> omega

/-- Subtracting `m` with a borrow is adding its one's complement with the carry: the byte and all four flags agree (R222). -/
theorem subBinary_eq_addBinary_not (a m : Byte) (cin : Bool) : subBinary a m cin = addBinary a (~~~m) cin := by
  have hm := m.isLt
  have hnot : (~~~m).toNat = 255 - m.toNat := BitVec.toNat_not
  have hr : (subBinary a m cin).r = (addBinary a (~~~m) cin).r := by
    apply BitVec.eq_of_toNat_eq
    have hsub := subBinary_r_toNat a m cin
    rw [addBinary_r_toNat, hnot]
    omega
  have hc : (subBinary a m cin).c = (addBinary a (~~~m) cin).c := by
    simp only [subBinary, addBinary, hnot, decide_eq_decide]
    omega
  have hv : (a.msb != m.msb) = (a.msb == (~~~m).msb) := by
    rw [BitVec.msb_not]
    cases a.msb <;> cases m.msb <;> rfl
  simp only [subBinary, addBinary] at hr hc ⊢
  rw [hr, hc, hv]

theorem subBinary_v (a m : Byte) (cin : Bool) : (subBinary a m cin).v =
    decide (a.toInt - m.toInt - (1 - (cin.toNat : Int)) < -128 ∨ a.toInt - m.toInt - (1 - (cin.toNat : Int)) > 127) := by
  rw [subBinary_eq_addBinary_not, addBinary_v, toInt_complement, decide_eq_decide]
  omega

theorem subBinary_v_signs (a m : Byte) (cin : Bool) : (subBinary a m cin).v =
    (decide (a.getLsbD 7 ≠ m.getLsbD 7) && decide ((subBinary a m cin).r.getLsbD 7 ≠ a.getLsbD 7)) := by
  simp only [← msb_eq_bit_seven, subBinary, Bool.beq_eq_decide_eq, bne, ne_eq, decide_not]

/-- Settles O26: V's range is that of the addition of the one's complement. -/
theorem subBinaryIsTheDifference : Obligations.SubBinaryIsTheDifference := fun a m cin =>
  ⟨subBinary_r_toNat a m cin, rfl, subBinary_v a m cin, subBinary_v_signs a m cin, msb_eq_bit_seven _,
    beq_zero_eq_decide_toNat _⟩

/-! ## Decimal addition (R221) -/

theorem toBcd_toNat {d : Nat} (hd : d < 100) : (toBcd d).toNat = d / 10 * 16 + d % 10 := by
  rw [toBcd, BitVec.toNat_ofNat]
  omega

theorem validBcd_toBcd {d : Nat} (hd : d < 100) : validBcd (toBcd d) = true := by
  simp only [validBcd, toBcd_toNat hd, Bool.and_eq_true, decide_eq_true_eq]
  omega

theorem bcdValue_toBcd {d : Nat} (hd : d < 100) : bcdValue (toBcd d) = d := by
  rw [bcdValue, toBcd_toNat hd]
  omega

/-- Settles O27: the result is `bcd(sum mod 100)`, and packing a number below 100 gives a BCD byte of that value.
The function itself does this on any two bytes; that they are BCD is what makes the numbers theirs (R224). -/
theorem addDecimalIsTheDecimalSum : Obligations.AddDecimalIsTheDecimalSum := by
  intro a m cin _ _
  have below : (bcdValue a + bcdValue m + cin.toNat) % 100 < 100 := Nat.mod_lt _ (by decide)
  exact ⟨validBcd_toBcd below, bcdValue_toBcd below, rfl, rfl, msb_eq_bit_seven _, beq_zero_eq_decide_toNat _⟩

/-! ## What a line does, by the operation that is its meaning -/

theorem Line.does.imp {α : Type} {l : Line α} {s : State} {Q Q' : State → Prop} (h : l.does s Q)
    (weaken : ∀ t, Q t → Q' t) : l.does s Q' := by
  obtain ⟨hholds, t, hexec, hpc, hQ⟩ := h
  exact ⟨hholds, t, hexec, hpc, weaken t hQ⟩

theorem resultToA_does {α : Type} {l : Line α} {s : State} {v : Byte} (h : l.means s (resultToA v l.bytes.length s)) :
    l.does s fun t => t.a = v ∧ FlagsNZ t.a t ∧ Frame [.a] [.n, .z] [] s t := by
  obtain ⟨ha, hnz, hpc, -, hframe⟩ := resultToA_next (s := s) (m := v) (len := l.bytes.length) rfl
  exact h.does hpc ⟨ha, hnz, hframe⟩

theorem compareWith_does {α : Type} {l : Line α} {s : State} {reg m : Byte}
    (h : l.means s (compareWith reg m l.bytes.length s)) :
    l.does s fun t => t.flag .n = (reg - m).getLsbD 7 ∧ t.flag .z = decide (reg = m) ∧
      t.flag .c = decide (m.toNat ≤ reg.toNat) ∧ Frame [] [.n, .z, .c] [] s t := by
  obtain ⟨hn, hz, hc, hpc, -, hframe⟩ := compareWith_next (s := s) (reg := reg) (m := m) (len := l.bytes.length) rfl
  exact h.does hpc ⟨hn.trans (msb_eq_bit_seven _), hz.trans (Bool.beq_eq_decide_eq _ _), hc, hframe⟩

/-- BIT's Z says that no bit is 1 in both bytes (R234). -/
theorem and_beq_zero (a m : Byte) :
    (a &&& m == 0) = decide (∀ k : Fin 8, (a.getLsbD k && m.getLsbD k) = false) := by
  rw [Bool.beq_eq_decide_eq, decide_eq_decide]
  constructor
  · intro h k
    rw [← BitVec.getLsbD_and, h]
    exact BitVec.getLsbD_zero
  · intro h
    apply BitVec.eq_of_getLsbD_eq
    intro k hk
    rw [BitVec.getLsbD_and, h ⟨k, hk⟩]
    exact BitVec.getLsbD_zero.symm

theorem bitTest_does {α : Type} {l : Line α} {s : State} {m : Byte} (h : l.means s (bitTest m l.bytes.length s)) :
    l.does s fun t => t.flag .n = m.getLsbD 7 ∧ t.flag .v = m.getLsbD 6 ∧
      t.flag .z = decide (∀ k : Fin 8, (s.a.getLsbD k && m.getLsbD k) = false) ∧ Frame [] [.n, .v, .z] [] s t := by
  obtain ⟨hn, hv, hz, hpc, -, hframe⟩ := bitTest_next (s := s) (m := m) (len := l.bytes.length) rfl
  exact h.does hpc ⟨hn, hv, hz.trans (and_beq_zero _ _), hframe⟩

theorem updateMem_does {α : Type} {l : Line α} {s : State} {ea : Word} {v : Byte} {k : Nat}
    (h : l.means s (updateMem ea v l.bytes.length s)) (hv : v.toNat = k) :
    l.does s fun t => (∃ r : Byte, r.toNat = k ∧ Stored ea r s t ∧ FlagsNZ r t) ∧ Frame [] [.n, .z] [ea] s t := by
  obtain ⟨hstored, hnz, hpc, -, hframe⟩ := updateMem_next (s := s) (ea := ea) (v := v) (len := l.bytes.length) rfl
  exact h.does hpc ⟨⟨v, hv, hstored, hnz⟩, hframe⟩

theorem updateX_does {α : Type} {l : Line α} {s : State} {v : Byte} {k : Nat} (h : l.means s (updateX v s))
    (hlen : l.bytes.length = 1) (hv : v.toNat = k) :
    l.does s fun t => t.x.toNat = k ∧ FlagsNZ t.x t ∧ Frame [.x] [.n, .z] [] s t := by
  obtain ⟨hx, hnz, hpc, -, hframe⟩ := updateX_next (s := s) (m := v) rfl
  exact h.does (by rw [hpc, Line.after, hlen]) ⟨hv, hnz, hframe⟩

theorem updateY_does {α : Type} {l : Line α} {s : State} {v : Byte} {k : Nat} (h : l.means s (updateY v s))
    (hlen : l.bytes.length = 1) (hv : v.toNat = k) :
    l.does s fun t => t.y.toNat = k ∧ FlagsNZ t.y t ∧ Frame [.y] [.n, .z] [] s t := by
  obtain ⟨hy, hnz, hpc, -, hframe⟩ := updateY_next (s := s) (m := v) rfl
  exact h.does (by rw [hpc, Line.after, hlen]) ⟨hv, hnz, hframe⟩

/-! ## AND, ORA, EOR (R228 to R230) -/

theorem linesAnd_means (n : Byte) (nn : Word) (s : State) :
    ∀ l ∈ linesAnd n nn s, l.means s (resultToA (s.a &&& l.operand) l.bytes.length s) := by
  simp only [linesAnd, List.forall_mem_cons]
  refine ⟨?imm, ?zp, ?zpX, ?abs, ?absX, ?absY, ?ind, ?indX, List.forall_mem_nil _⟩ <;> exact ⟨⟨rfl, rfl, rfl⟩, rfl⟩

theorem linesOra_means (n : Byte) (nn : Word) (s : State) :
    ∀ l ∈ linesOra n nn s, l.means s (resultToA (s.a ||| l.operand) l.bytes.length s) := by
  simp only [linesOra, List.forall_mem_cons]
  refine ⟨?imm, ?zp, ?zpX, ?abs, ?absX, ?absY, ?ind, ?indX, List.forall_mem_nil _⟩ <;> exact ⟨⟨rfl, rfl, rfl⟩, rfl⟩

theorem linesEor_means (n : Byte) (nn : Word) (s : State) :
    ∀ l ∈ linesEor n nn s, l.means s (resultToA (s.a ^^^ l.operand) l.bytes.length s) := by
  simp only [linesEor, List.forall_mem_cons]
  refine ⟨?imm, ?zp, ?zpX, ?abs, ?absX, ?absY, ?ind, ?indX, List.forall_mem_nil _⟩ <;> exact ⟨⟨rfl, rfl, rfl⟩, rfl⟩

/-- Settles O30: each line is `resultToA` of the bitwise operation on A and its operand. -/
theorem logicIsBitwise : Obligations.LogicIsBitwise := by
  intro n nn s
  refine ⟨fun l hl => (resultToA_does (linesAnd_means n nn s l hl)).imp ?and,
    fun l hl => (resultToA_does (linesOra_means n nn s l hl)).imp ?ora,
    fun l hl => (resultToA_does (linesEor_means n nn s l hl)).imp ?eor⟩ <;>
  rintro t ⟨ha, hnz, hframe⟩ <;> refine ⟨fun k _ => ?_, hnz, hframe⟩ <;> rw [ha]
  case and => exact BitVec.getLsbD_and
  case ora => exact BitVec.getLsbD_or
  case eor => exact BitVec.getLsbD_xor

/-! ## Compares and BIT (R231 to R234) -/

theorem linesCmp_means (n : Byte) (nn : Word) (s : State) :
    ∀ l ∈ linesCmp n nn s, l.means s (compareWith s.a l.operand l.bytes.length s) := by
  simp only [linesCmp, List.forall_mem_cons]
  refine ⟨?imm, ?zp, ?zpX, ?abs, ?absX, ?absY, ?ind, ?indX, List.forall_mem_nil _⟩ <;> exact ⟨⟨rfl, rfl, rfl⟩, rfl⟩

theorem linesCpx_means (n : Byte) (nn : Word) (s : State) :
    ∀ l ∈ linesCpx n nn s, l.means s (compareWith s.x l.operand l.bytes.length s) := by
  simp only [linesCpx, List.forall_mem_cons]
  refine ⟨?imm, ?zp, ?abs, List.forall_mem_nil _⟩ <;> exact ⟨⟨rfl, rfl, rfl⟩, rfl⟩

theorem linesCpy_means (n : Byte) (nn : Word) (s : State) :
    ∀ l ∈ linesCpy n nn s, l.means s (compareWith s.y l.operand l.bytes.length s) := by
  simp only [linesCpy, List.forall_mem_cons]
  refine ⟨?imm, ?zp, ?abs, List.forall_mem_nil _⟩ <;> exact ⟨⟨rfl, rfl, rfl⟩, rfl⟩

theorem linesBit_means (n : Byte) (nn : Word) (s : State) :
    ∀ l ∈ linesBit n nn s, l.means s (bitTest l.operand l.bytes.length s) := by
  simp only [linesBit, List.forall_mem_cons]
  refine ⟨?zp, ?abs, List.forall_mem_nil _⟩ <;> exact ⟨⟨rfl, rfl, rfl⟩, rfl⟩

/-- Settles O31: each line is `compareWith` of its register or `bitTest`, at its operand. -/
theorem comparesAndBitTestSetFlagsOnly : Obligations.ComparesAndBitTestSetFlagsOnly := fun n nn s =>
  ⟨fun l hl => compareWith_does (linesCmp_means n nn s l hl), fun l hl => compareWith_does (linesCpx_means n nn s l hl),
    fun l hl => compareWith_does (linesCpy_means n nn s l hl), fun l hl => bitTest_does (linesBit_means n nn s l hl)⟩

/-! ## Increments and decrements (R235 to R240) -/

theorem byte_add_one_toNat (b : Byte) : (b + 1).toNat = (b.toNat + 1) % 256 := BitVec.toNat_add b 1

theorem byte_sub_one_toNat (b : Byte) : (b - 1).toNat = (b.toNat + 255) % 256 := by bv_omega

theorem linesInc_means (n : Byte) (nn : Word) (s : State) :
    ∀ l ∈ linesInc n nn s, l.means s (updateMem l.operand (s.read l.operand + 1) l.bytes.length s) := by
  simp only [linesInc, List.forall_mem_cons]
  refine ⟨?zp, ?zpX, ?abs, ?absX, List.forall_mem_nil _⟩ <;> exact ⟨⟨rfl, rfl, rfl⟩, rfl⟩

theorem linesDec_means (n : Byte) (nn : Word) (s : State) :
    ∀ l ∈ linesDec n nn s, l.means s (updateMem l.operand (s.read l.operand - 1) l.bytes.length s) := by
  simp only [linesDec, List.forall_mem_cons]
  refine ⟨?zp, ?zpX, ?abs, ?absX, List.forall_mem_nil _⟩ <;> exact ⟨⟨rfl, rfl, rfl⟩, rfl⟩

/-- Settles O32: each line of INC and DEC is `updateMem` at its operand, the other four are `updateX` or `updateY`. -/
theorem incrementsAndDecrements : Obligations.IncrementsAndDecrements := by
  intro n nn s
  refine ⟨fun l hl => updateMem_does (linesInc_means n nn s l hl) (byte_add_one_toNat _),
    fun l hl => updateMem_does (linesDec_means n nn s l hl) (byte_sub_one_toNat _),
    updateX_does ?inx rfl (byte_add_one_toNat _), updateY_does ?iny rfl (byte_add_one_toNat _),
    updateX_does ?dex rfl (byte_sub_one_toNat _), updateY_does ?dey rfl (byte_sub_one_toNat _)⟩
  all_goals exact ⟨⟨rfl, rfl, rfl⟩, rfl⟩

/-! ## NEG and LAB (R241, R242) -/

theorem negByte_toNat (b : Byte) : (negByte b).toNat = (256 - b.toNat) % 256 := by
  rw [negByte]
  bv_omega

theorem absByte_toNat (b : Byte) : (absByte b).toNat = b.toInt.natAbs := by
  rw [absByte, BitVec.toInt_eq_msb_cond]
  split
  case isTrue negative =>
    have := BitVec.toNat_ge_of_msb_true negative
    bv_omega
  case isFalse _ => rfl

/-- 0x80 is the one byte whose absolute value is no positive signed byte. -/
theorem absByte_bit_seven (b : Byte) : (absByte b).getLsbD 7 = true ↔ b = 0x80 := by
  have hb := b.isLt
  have h80 : (0x80 : Byte).toNat = 128 := rfl
  rw [← msb_eq_bit_seven, BitVec.msb_eq_decide, decide_eq_true_eq, absByte_toNat, BitVec.toInt_eq_toNat_cond,
    ← BitVec.toNat_inj, h80]
  split <;> omega

/-- Settles O33: both are `resultToA`, of the two's complement and of the absolute value. -/
theorem negateAndAbsoluteValue : Obligations.NegateAndAbsoluteValue := by
  intro s
  refine ⟨(resultToA_does (v := negByte s.a) ⟨⟨rfl, rfl, rfl⟩, rfl⟩).imp ?neg,
    (resultToA_does (v := absByte s.a) ⟨⟨rfl, rfl, rfl⟩, rfl⟩).imp ?lab⟩ <;>
  rintro t ⟨ha, hnz, hframe⟩
  case neg => exact ⟨by rw [ha, negByte_toNat], hnz, hframe⟩
  case lab =>
    have hn : t.flag .n = true ↔ s.a = 0x80 := by rw [hnz.1, ha, absByte_bit_seven]
    exact ⟨by rw [ha, absByte_toNat], hn, hnz, hframe⟩

end Sys2Proof.Machine

/-! SUPPORT. The shift and rotate functions as numbers, and the shifts and rotates line by line (43_shift_rotate.md). -/

namespace Sys2Proof.Machine

/-! ## The shifted byte as a number (R260 to R264) -/

theorem or_toNat_of_disjoint {a b : Byte} (disjoint : a &&& b = 0) : (a ||| b).toNat = (a.toNat + b.toNat) % 256 := by
  rw [← BitVec.add_eq_or_of_and_eq_zero a b disjoint, BitVec.toNat_add]

theorem shiftLeft_one_toNat (b : Byte) : (b <<< 1).toNat = 2 * b.toNat % 256 := by
  rw [BitVec.toNat_shiftLeft, Nat.shiftLeft_eq, Nat.mul_comm]

theorem shiftRight_one_toNat (b : Byte) : (b >>> 1).toNat = b.toNat / 2 := by
  rw [BitVec.toNat_ushiftRight, Nat.shiftRight_eq_div_pow]

/-- 0x80 is bit 7 alone. -/
theorem getLsbD_0x80 (k : Nat) : (0x80 : Byte).getLsbD k = decide (k = 7) := by
  have twoPow : (0x80 : Byte) = BitVec.twoPow 8 7 := rfl
  rw [twoPow, BitVec.getLsbD_twoPow]
  simp [eq_comm]

/-- The shift empties bit 0, and the old C goes there. -/
theorem rotateLeft_toNat (b : Byte) (cin : Bool) :
    ((b <<< 1) ||| (if cin then 0x01 else 0x00)).toNat = 2 * b.toNat % 256 + cin.toNat := by
  have disjoint : (b <<< 1) &&& (if cin then 0x01 else 0x00) = 0 := by
    cases cin
    case false => exact BitVec.and_zero
    case true => ext k; cases k <;> simp
  have carry : (if cin then 0x01 else 0x00 : Byte).toNat = cin.toNat := by cases cin <;> rfl
  have hcin := cin.toNat_lt
  rw [or_toNat_of_disjoint disjoint, shiftLeft_one_toNat, carry]
  omega

/-- The shift empties bit 7, and the old C goes there. -/
theorem rotateRight_toNat (b : Byte) (cin : Bool) :
    ((b >>> 1) ||| (if cin then 0x80 else 0x00)).toNat = b.toNat / 2 + 128 * cin.toNat := by
  have disjoint : (b >>> 1) &&& (if cin then 0x80 else 0x00) = 0 := by
    cases cin
    case false => exact BitVec.and_zero
    case true =>
      apply BitVec.eq_of_getLsbD_eq
      intro k _
      rw [if_pos rfl, BitVec.getLsbD_and, BitVec.getLsbD_ushiftRight, getLsbD_0x80]
      by_cases top : k = 7 <;> simp [top]
  have carry : (if cin then 0x80 else 0x00 : Byte).toNat = 128 * cin.toNat := by cases cin <;> rfl
  have hb := b.isLt
  have hcin := cin.toNat_lt
  rw [or_toNat_of_disjoint disjoint, shiftRight_one_toNat, carry]
  omega

/-- Putting the old bit 7 back after a shift to the right is the arithmetic shift (R264). -/
theorem shiftRight_or_sign (b : Byte) : (b >>> 1) ||| (b &&& 0x80) = b.sshiftRight 1 := by
  apply BitVec.eq_of_getLsbD_eq
  intro k hk
  rw [BitVec.getLsbD_or, BitVec.getLsbD_ushiftRight, BitVec.getLsbD_and, getLsbD_0x80, BitVec.getLsbD_sshiftRight, msb_eq_bit_seven]
  by_cases top : k = 7
  case pos => simp [top]
  case neg =>
    have inner : 1 + k < 8 := by omega
    simp [top, inner, hk]

theorem sshiftRight_one_toInt (b : Byte) : (b.sshiftRight 1).toInt = b.toInt / 2 := by
  rw [BitVec.toInt_sshiftRight, Int.shiftRight_eq_div_pow]
  rfl

theorem bit_seven_eq_false_of_half {b r : Byte} (half : r.toNat = b.toNat / 2) : r.getLsbD 7 = false := by
  have hb := b.isLt
  rw [← msb_eq_bit_seven, BitVec.msb_eq_decide, decide_eq_false_iff_not]
  omega

/-- LSR's fixed N = 0 is bit 7 of its result: here too N and Z follow the byte (R261). -/
theorem lsrByte_eq_shiftResult (b : Byte) (cin : Bool) : lsrByte b cin = shiftResult (b >>> 1) (b.getLsbD 0) := by
  rw [shiftResult, msb_eq_bit_seven, bit_seven_eq_false_of_half (shiftRight_one_toNat b)]
  rfl

theorem asrByte_eq_shiftResult (b : Byte) : asrByte b = shiftResult (b.sshiftRight 1) (b.getLsbD 0) := by
  rw [asrByte, shiftRight_or_sign]

/-! ## What a line does, by the form of its shift

The result of every shift is a `shiftResult`: its N and Z follow the byte. -/

theorem FlagsNZ.of_shiftResult {r : Byte} {c : Bool} {t : State} (hn : t.flag .n = (shiftResult r c).n)
    (hz : t.flag .z = (shiftResult r c).z) : FlagsNZ r t :=
  ⟨hn.trans (msb_eq_bit_seven r), hz.trans (beq_zero_eq_decide_toNat r)⟩

theorem shiftMem_does {α : Type} {l : Line α} {s : State} {f : Byte → Bool → ShiftResult} {ea : Word} {r : Byte} {c : Bool} {k : Nat}
    (h : l.means s (shiftMem f ea l.bytes.length s)) (hf : f (s.read ea) (s.flag .c) = shiftResult r c) (hr : r.toNat = k) :
    l.does s fun t => (∃ r : Byte, r.toNat = k ∧ Stored ea r s t ∧ t.flag .c = c ∧ FlagsNZ r t) ∧
      Frame [] [.n, .z, .c] [ea] s t := by
  obtain ⟨t, hnext⟩ : ∃ t, shiftMem f ea l.bytes.length s = .next t := ⟨_, rfl⟩
  obtain ⟨hstored, hn, hz, hc, hpc, -, hframe⟩ := shiftMem_next hnext
  rw [hf] at hstored hn hz hc
  rw [hnext] at h
  exact h.does hpc ⟨⟨r, hr, hstored, hc, FlagsNZ.of_shiftResult hn hz⟩, hframe⟩

theorem shiftAcc_does {α : Type} {l : Line α} {s : State} {f : Byte → Bool → ShiftResult} {r : Byte} {c : Bool}
    (h : l.means s (shiftAcc f s)) (hlen : l.bytes.length = 1) (hf : f s.a (s.flag .c) = shiftResult r c) :
    l.does s fun t => t.a = r ∧ t.flag .c = c ∧ FlagsNZ t.a t ∧ Frame [.a] [.n, .z, .c] [] s t := by
  obtain ⟨t, hnext⟩ : ∃ t, shiftAcc f s = .next t := ⟨_, rfl⟩
  obtain ⟨ha, hn, hz, hc, hpc, -, hframe⟩ := shiftAcc_next hnext
  rw [hf] at ha hn hz hc
  rw [hnext] at h
  exact h.does (by rw [hpc, Line.after, hlen]; rfl) ⟨ha, hc, ha ▸ FlagsNZ.of_shiftResult hn hz, hframe⟩

theorem shiftAcc_does_toNat {α : Type} {l : Line α} {s : State} {f : Byte → Bool → ShiftResult} {r : Byte} {c : Bool} {k : Nat}
    (h : l.means s (shiftAcc f s)) (hlen : l.bytes.length = 1) (hf : f s.a (s.flag .c) = shiftResult r c) (hr : r.toNat = k) :
    l.does s fun t => t.a.toNat = k ∧ t.flag .c = c ∧ FlagsNZ t.a t ∧ Frame [.a] [.n, .z, .c] [] s t :=
  (shiftAcc_does h hlen hf).imp fun _ ⟨ha, hrest⟩ => ⟨ha ▸ hr, hrest⟩

/-! ## The lines of the memory forms -/

theorem linesAsl_means (n : Byte) (nn : Word) (s : State) :
    ∀ l ∈ linesAsl n nn s, l.means s (shiftMem aslByte l.operand l.bytes.length s) := by
  simp only [linesAsl, List.forall_mem_cons]
  refine ⟨?zp, ?zpX, ?abs, ?absX, List.forall_mem_nil _⟩ <;> exact ⟨⟨rfl, rfl, rfl⟩, rfl⟩

theorem linesLsr_means (n : Byte) (nn : Word) (s : State) :
    ∀ l ∈ linesLsr n nn s, l.means s (shiftMem lsrByte l.operand l.bytes.length s) := by
  simp only [linesLsr, List.forall_mem_cons]
  refine ⟨?zp, ?zpX, ?abs, ?absX, List.forall_mem_nil _⟩ <;> exact ⟨⟨rfl, rfl, rfl⟩, rfl⟩

theorem linesRol_means (n : Byte) (nn : Word) (s : State) :
    ∀ l ∈ linesRol n nn s, l.means s (shiftMem rolByte l.operand l.bytes.length s) := by
  simp only [linesRol, List.forall_mem_cons]
  refine ⟨?zp, ?zpX, ?abs, ?absX, List.forall_mem_nil _⟩ <;> exact ⟨⟨rfl, rfl, rfl⟩, rfl⟩

theorem linesRor_means (n : Byte) (nn : Word) (s : State) :
    ∀ l ∈ linesRor n nn s, l.means s (shiftMem rorByte l.operand l.bytes.length s) := by
  simp only [linesRor, List.forall_mem_cons]
  refine ⟨?zp, ?zpX, ?abs, ?absX, List.forall_mem_nil _⟩ <;> exact ⟨⟨rfl, rfl, rfl⟩, rfl⟩

/-! ## The obligations -/

/-- Settles O34: each memory line is `shiftMem` at its operand, each Accumulator line `shiftAcc`, of the same byte function. -/
theorem leftShiftsAndRotates : Obligations.LeftShiftsAndRotates := fun n nn s =>
  ⟨fun l hl => shiftMem_does (linesAsl_means n nn s l hl) rfl (shiftLeft_one_toNat _),
    shiftAcc_does_toNat (f := aslByte) ⟨⟨rfl, rfl, rfl⟩, rfl⟩ rfl rfl (shiftLeft_one_toNat _),
    fun l hl => shiftMem_does (linesRol_means n nn s l hl) rfl (rotateLeft_toNat _ _),
    shiftAcc_does_toNat (f := rolByte) ⟨⟨rfl, rfl, rfl⟩, rfl⟩ rfl rfl (rotateLeft_toNat _ _)⟩

/-- Settles O35: as O34; LSR's result has bit 7 clear, and ASR is the arithmetic shift, which keeps bit 7. -/
theorem rightShiftsAndRotates : Obligations.RightShiftsAndRotates := by
  intro n nn s
  refine ⟨fun l hl => (shiftMem_does (linesLsr_means n nn s l hl) (lsrByte_eq_shiftResult _ _) (shiftRight_one_toNat _)).imp ?lsr,
    (shiftAcc_does_toNat ⟨⟨rfl, rfl, rfl⟩, rfl⟩ rfl (lsrByte_eq_shiftResult _ _) (shiftRight_one_toNat _)).imp ?lsrAcc,
    fun l hl => shiftMem_does (linesRor_means n nn s l hl) rfl (rotateRight_toNat _ _),
    shiftAcc_does_toNat (f := rorByte) ⟨⟨rfl, rfl, rfl⟩, rfl⟩ rfl rfl (rotateRight_toNat _ _),
    (shiftAcc_does (f := fun b _ => asrByte b) ⟨⟨rfl, rfl, rfl⟩, rfl⟩ rfl (asrByte_eq_shiftResult _)).imp ?asr⟩
  case lsr =>
    rintro t ⟨⟨r, hr, hstored, hc, hn, hz⟩, hframe⟩
    exact ⟨⟨r, hr, hstored, hc, hn.trans (bit_seven_eq_false_of_half hr), hz⟩, hframe⟩
  case lsrAcc =>
    rintro t ⟨ha, hc, ⟨hn, hz⟩, hframe⟩
    exact ⟨ha, hc, hn.trans (bit_seven_eq_false_of_half ha), hz, hframe⟩
  case asr =>
    rintro t ⟨ha, hc, hnz, hframe⟩
    have hn : t.flag .n = s.a.getLsbD 7 := by
      rw [hnz.1, ha, ← msb_eq_bit_seven, BitVec.msb_sshiftRight, msb_eq_bit_seven]
    exact ⟨by rw [ha, sshiftRight_one_toInt], hc, hn, hnz, hframe⟩

end Sys2Proof.Machine

/-! SUPPORT. The signed product as a number, and the multiply and the moves of W line by line (44_multiply_w.md). -/

namespace Sys2Proof.Machine

/-! ## What each setter leaves unchanged, and the stack pull -/

theorem setY_frame (s : State) (v : Byte) : Frame [.y] [] [] s (s.setY v) := by
  refine ⟨?_, fun f _ => rfl, KeepsMemory.of_mem_eq rfl, rfl, rfl, rfl, rfl⟩
  apply KeepsRegs.of_eq <;> simp

theorem setW_frame (s : State) (v : Word) : Frame [.w] [] [] s (s.setW v) := by
  refine ⟨?_, fun f _ => rfl, KeepsMemory.of_mem_eq rfl, rfl, rfl, rfl, rfl⟩
  apply KeepsRegs.of_eq <;> simp

theorem setFlag_frame (s : State) (f : Flag) (v : Bool) : Frame [] [f] [] s (s.setFlag f v) := by
  refine ⟨?_, fun g hg => ?_, KeepsMemory.of_mem_eq rfl, rfl, rfl, rfl, rfl⟩
  · apply KeepsRegs.of_eq <;> simp
  · rw [State.flag_setFlag, if_neg (List.mem_singleton.not.mp hg)]

theorem setNZ_frame (s : State) (v : Byte) : Frame [] [.n, .z] [] s (s.setNZ v) :=
  (setFlag_frame s .n v.msb).trans (setFlag_frame (s.setFlag .n v.msb) .z (v == 0))

theorem loByte_top16 (s : State) : loByte s.top16 = s.read (stackAddr (s.sp + 1)) := by
  rw [top16_eq, loByte_joinBytes]

theorem hiByte_top16 (s : State) : hiByte s.top16 = s.read (stackAddr (s.sp + 2)) := by
  rw [top16_eq, hiByte_joinBytes]

/-! ## The multiply (R280) -/

/-- A product of two signed bytes is at most 2^14 in size: sixteen bits hold it (R288). -/
theorem signedProduct_toInt (a y : Byte) : (signedProduct a y).toInt = a.toInt * y.toInt := by
  have low : -2 ^ 14 ≤ a.toInt * y.toInt := BitVec.le_toInt_mul_toInt
  have high : a.toInt * y.toInt ≤ 2 ^ 14 := BitVec.toInt_mul_toInt_le
  exact BitVec.toInt_ofInt_eq_self (by decide) (by omega) (by omega)

theorem exec_mpy (s : State) : exec .mpy s =
    .next (((((s.setA (hiByte (signedProduct s.a s.y))).setY (loByte (signedProduct s.a s.y))).setFlag .n
      (hiByte (signedProduct s.a s.y)).msb).setFlag .v false).advance 1) := rfl

/-- Settles O36: the two bytes written join to the product, which is in range; N is set before V and survives it. -/
theorem multiplyIsTheSignedProduct : Obligations.MultiplyIsTheSignedProduct := by
  intro s
  refine Line.means.does ⟨⟨rfl, rfl, rfl⟩, exec_mpy s⟩ rfl ⟨?product, ?sign, ?overflow, ?frame⟩
  case product =>
    exact (congrArg BitVec.toInt (joinBytes_hiByte_loByte _)).trans (signedProduct_toInt s.a s.y)
  case sign =>
    rw [State.flag_advance, State.flag_setFlag, if_neg (by decide), State.flag_setFlag, if_pos rfl, msb_eq_bit_seven]
    rfl
  case overflow => rw [State.flag_advance, State.flag_setFlag, if_pos rfl]
  case frame =>
    exact ((((setA_frame s _).trans (setY_frame _ _)).trans (setFlag_frame _ .n _)).trans (setFlag_frame _ .v _)).advance 1

/-! ## The moves of W (R283 to R287) -/

theorem exec_clw (s : State) : exec .clw s = .next (((s.setW 0x0000).setFlag .v false).advance 1) := rfl

theorem exec_taw (s : State) : exec .taw s = .next (((s.setW (joinBytes s.a 0x00)).setNZ s.a).advance 1) := rfl

theorem exec_phw (s : State) : exec .phw s = .next ((s.push16 s.w).advance 1) := rfl

theorem exec_plw (s : State) : exec .plw s = .next ((s.pop16.setW s.top16).advance 1) := rfl

/-- Settles O39: TWA is a load of A from WH; the other four compose the setters, the push and the pull of their rules. -/
theorem movesOfW : Obligations.MovesOfW := by
  intro s
  refine ⟨Line.means.does ⟨⟨rfl, rfl, rfl⟩, exec_clw s⟩ rfl ?clw, Line.means.does ⟨⟨rfl, rfl, rfl⟩, exec_taw s⟩ rfl ?taw,
    loadA_does ⟨⟨rfl, rfl, rfl⟩, rfl⟩, Line.means.does ⟨⟨rfl, rfl, rfl⟩, exec_phw s⟩ rfl ?phw,
    Line.means.does ⟨⟨rfl, rfl, rfl⟩, exec_plw s⟩ rfl ?plw⟩
  case clw =>
    have hv : ((s.setW 0x0000).setFlag .v false).flag .v = false := by rw [State.flag_setFlag, if_pos rfl]
    exact ⟨rfl, hv, ((setW_frame s _).trans (setFlag_frame _ .v false)).advance 1⟩
  case taw =>
    exact ⟨hiByte_joinBytes _ _, loByte_joinBytes _ _, FlagsNZ.of_setNZ _ s.a,
      ((setW_frame s _).trans (setNZ_frame _ s.a)).advance 1⟩
  case phw =>
    obtain ⟨hhigh, hlow, hsp, hframe⟩ := push16_spec s s.w
    exact ⟨hhigh.of_read rfl, hlow.of_read rfl, hsp, hframe.advance 1⟩
  case plw =>
    have hframe := ((pop16_frame s).trans (setW_frame s.pop16 s.top16)).advance 1
    exact ⟨loByte_top16 s, hiByte_top16 s, pop16_sp s,
      hframe.mono (by simp) (fun _ h => h) (fun _ h => h)⟩

end Sys2Proof.Machine

/-! SUPPORT. The bits of a masked byte, and RMB and SMB for every bit number (45_bit_ops.md). -/

namespace Sys2Proof.Machine

/-! ## The bits of a masked byte -/

/-- The mask of a bit-addressed instruction is that bit alone (R102, R158). -/
theorem getLsbD_bitMask (k j : Fin 8) : (bitMask k).getLsbD j = decide (j = k) := by
  have twoPow : bitMask k = BitVec.twoPow 8 k := rfl
  have inRange : (k : Nat) < 8 := k.isLt
  rw [twoPow, BitVec.getLsbD_twoPow, decide_eq_true inRange, Bool.true_and, decide_eq_decide, ← Fin.ext_iff, eq_comm]

theorem getLsbD_clear_mask (b mask : Byte) (j : Fin 8) :
    (b &&& ~~~mask).getLsbD j = (!mask.getLsbD j && b.getLsbD j) := by
  rw [BitVec.getLsbD_and, BitVec.getLsbD_not, decide_eq_true j.isLt, Bool.true_and, Bool.and_comm]

theorem getLsbD_set_mask (b mask : Byte) (j : Fin 8) : (b ||| mask).getLsbD j = (mask.getLsbD j || b.getLsbD j) := by
  rw [BitVec.getLsbD_or, Bool.or_comm]

/-! ## The lines of RMB and SMB (R300, R301)

Either is the store of the byte it computes, at the zero page address; only the eight operation codes and arms differ by bit number. -/

def rmbLine (k : Fin 8) (n : Byte) (s : State) : Line Unit :=
  ⟨rmbInstr k n, [bitOpcode 0x07 k, n], 5, busModifyZp n (s.read (eaZp n) &&& ~~~(bitMask k)) s, ()⟩

def smbLine (k : Fin 8) (n : Byte) (s : State) : Line Unit :=
  ⟨smbInstr k n, [bitOpcode 0x87 k, n], 5, busModifyZp n (s.read (eaZp n) ||| bitMask k) s, ()⟩

theorem rmbLine_means (k : Fin 8) (n : Byte) (s : State) :
    (rmbLine k n s).means s (storeByte (eaZp n) (s.read (eaZp n) &&& ~~~(bitMask k)) (rmbLine k n s).bytes.length s) := by
  fin_cases k <;> exact ⟨⟨rfl, rfl, rfl⟩, rfl⟩

theorem smbLine_means (k : Fin 8) (n : Byte) (s : State) :
    (smbLine k n s).means s (storeByte (eaZp n) (s.read (eaZp n) ||| bitMask k) (smbLine k n s).bytes.length s) := by
  fin_cases k <;> exact ⟨⟨rfl, rfl, rfl⟩, rfl⟩

/-- Settles O40: each line is `storeByte` of the byte with the bit's mask cleared or set. -/
theorem memoryBitsAreSetAndReset : Obligations.MemoryBitsAreSetAndReset := by
  intro k n s
  refine ⟨(storeByte_does (rmbLine_means k n s)).imp ?rmb, (storeByte_does (smbLine_means k n s)).imp ?smb⟩ <;>
  rintro t ⟨hstored, hframe⟩ <;> refine ⟨fun ram j => ?_, hframe⟩ <;> rw [hstored ram]
  case rmb => rw [getLsbD_clear_mask, getLsbD_bitMask, ← decide_not]
  case smb => rw [getLsbD_set_mask, getLsbD_bitMask]

end Sys2Proof.Machine

/-! SUPPORT. Jumps and calls line by line: what a subroutine call pushes, where it goes, and the return (46_branch_jump.md). -/

namespace Sys2Proof.Machine

/-! ## A line whose instruction transfers control -/

theorem Frame.setPc {r : List Reg} {f : List Flag} {a : List Word} {s t : State} (h : Frame r f a s t) (target : Word) :
    Frame r f a s (t.setPc target) := h

/-- A line whose meaning goes on at the target jumps there. -/
theorem Line.means.jumps {α : Type} {l : Line α} {s t : State} {target : Word} {Q : State → Prop} (h : l.means s (.next t))
    (hpc : t.pc = target) (hQ : Q t) : l.jumps s target Q :=
  ⟨h.1, t, h.2, hpc, hQ⟩

/-- A call pushes the return address, moves S by the two bytes and writes nothing else (R333, R334). -/
theorem call_jumps {α : Type} {l : Line α} {s : State} {ret target : Word} (h : l.means s (.next ((s.push16 ret).setPc target))) :
    l.jumps s target fun t => Stored (stackAddr s.sp) (hiByte ret) s t ∧ Stored (stackAddr (s.sp - 1)) (loByte ret) s t ∧
      t.sp = s.sp - 2 ∧ Frame [.s] [] [stackAddr s.sp, stackAddr (s.sp - 1)] s t := by
  obtain ⟨hhigh, hlow, hsp, hframe⟩ := push16_spec s ret
  exact h.jumps rfl ⟨hhigh.of_read rfl, hlow.of_read rfl, hsp, hframe.setPc target⟩

/-! ## The vector of JSB is outside the stack page -/

theorem ne_stackAddr_of_page_above {addr : Word} (above : 0x200 ≤ addr.toNat) (p : Byte) : addr ≠ stackAddr p := by
  have hp := p.isLt
  rw [Ne, ← BitVec.toNat_inj, stackAddr_toNat]
  omega

theorem read_push16_of_page_above (s : State) (v : Word) {addr : Word} (above : 0x200 ≤ addr.toNat) :
    (s.push16 v).read addr = s.read addr := by
  rw [State.read_push16, if_neg (ne_stackAddr_of_page_above above _ ·.1), if_neg (ne_stackAddr_of_page_above above _ ·.1)]

theorem jsbVector_toNat (k : Fin 8) : (jsbVector k).toNat = 0xFFE0 + 2 * k := by
  have hk := k.isLt
  unfold jsbVector
  bv_omega

theorem jsbVector_add_one_toNat (k : Fin 8) : (jsbVector k + 1).toNat = 0xFFE1 + 2 * k := by
  have low := jsbVector_toNat k
  have hk := k.isLt
  bv_omega

/-- JSB reads its vector after the pushes, which cannot reach it (R162, R334). -/
theorem readWord_jsbVector_push16 (k : Fin 8) (s : State) (v : Word) :
    (s.push16 v).readWord (jsbVector k) = s.readWord (jsbVector k) := by
  have low := jsbVector_toNat k
  have high := jsbVector_add_one_toNat k
  rw [State.readWord, State.readWord, read_push16_of_page_above s v (by omega), read_push16_of_page_above s v (by omega)]

/-! ## The lines of JSR, JSB and RTS (R333 to R335) -/

theorem exec_jsr (nn : Word) (s : State) : exec (.jsr nn) s = .next ((s.push16 (s.pc + 3)).setPc nn) := rfl

theorem exec_rts (s : State) : exec .rts s = .next (s.pop16.setPc s.top16) := rfl

def jsbLine (k : Fin 8) (s : State) : Line Unit := ⟨jsbInstr k, [bitOpcode 0x0B k], 6, busJsb k s, ()⟩

/-- The eight operation codes and arms of JSB differ by the vector number alone. -/
theorem jsbLine_means_callVector (k : Fin 8) (s : State) : (jsbLine k s).means s (callVector k s) := by
  fin_cases k <;> exact ⟨⟨rfl, rfl, rfl⟩, rfl⟩

theorem callVector_eq (k : Fin 8) (s : State) :
    callVector k s = .next ((s.push16 (s.pc + 1)).setPc (s.readWord (jsbVector k))) := by
  rw [← readWord_jsbVector_push16 k s (s.pc + 1)]
  rfl

theorem jsbLine_means (k : Fin 8) (s : State) :
    (jsbLine k s).means s (.next ((s.push16 (s.pc + 1)).setPc (s.readWord (jsbVector k)))) :=
  callVector_eq k s ▸ jsbLine_means_callVector k s

/-- Settles O46: JSR and JSB are the same call, to the operand and to the vector's word; RTS is the pull, which writes no memory. -/
theorem callsAndReturn : Obligations.CallsAndReturn := by
  intro k nn s
  refine ⟨call_jumps ⟨⟨rfl, rfl, rfl⟩, exec_jsr nn s⟩, call_jumps (jsbLine_means k s), ?rts⟩
  case rts =>
    exact Line.means.jumps ⟨⟨rfl, rfl, rfl⟩, exec_rts s⟩ (top16_eq s) ⟨pop16_sp s, (pop16_frame s).setPc s.top16⟩

end Sys2Proof.Machine

/-! SUPPORT. Pushes and pulls line by line: one push, one pull before a load, and the three bytes of PSH and PUL (47_stack.md). -/

namespace Sys2Proof.Machine

/-! ## The pushes (R361 to R364, R369) -/

/-- PHA, PHP, PHX, PHY are one push, of the register each names. -/
theorem push8_does {α : Type} {l : Line α} {s : State} {v : Byte}
    (h : l.means s (.next ((s.push8 v).advance l.bytes.length))) :
    l.does s fun t => Stored (stackAddr s.sp) v s t ∧ t.sp = s.sp - 1 ∧ Frame [.s] [] [stackAddr s.sp] s t := by
  obtain ⟨hstored, hsp, hframe⟩ := push8_spec s v
  exact h.does rfl ⟨hstored.of_read rfl, hsp, hframe.advance _⟩

theorem exec_psh (s : State) : exec .psh s = .next ((((s.push8 s.a).push8 s.x).push8 s.y).advance 1) := rfl

/-- Settles O48: four lines are one push; PSH is three, at three different addresses, so no push covers an earlier one. -/
theorem pushesStoreAndDecrementS : Obligations.PushesStoreAndDecrementS := by
  intro s
  refine ⟨push8_does ?pha, push8_does ?php, push8_does ?phx, push8_does ?phy, ?psh⟩
  case psh =>
    obtain ⟨ha, hx, hy, hsp, hframe⟩ := push8_push8_push8_spec s s.a s.x s.y
    exact Line.means.does ⟨⟨rfl, rfl, rfl⟩, exec_psh s⟩ rfl
      ⟨ha.of_read rfl, hx.of_read rfl, hy.of_read rfl, hsp, hframe.advance 1⟩
  all_goals exact ⟨⟨rfl, rfl, rfl⟩, rfl⟩

/-! ## One pull, then a load (R365, R367, R368) -/

theorem exec_pla (s : State) : exec .pla s = loadA s.top8 1 s.pop8 := rfl

theorem exec_plx (s : State) : exec .plx s = loadX s.top8 1 s.pop8 := rfl

theorem exec_ply (s : State) : exec .ply s = loadY s.top8 1 s.pop8 := rfl

/-- What an operation on the pulled stack changes is, from before the pull, the same and S. -/
theorem Frame.of_pop8 {r : List Reg} {f : List Flag} {a : List Word} {s t : State} (h : Frame r f a s.pop8 t) :
    Frame (r ++ [.s]) f a s t :=
  ((pop8_frame s).trans h).mono (fun j hj => by simpa [or_comm] using hj) (fun _ hj => hj) (fun _ hj => hj)

/-! ## The six bits PLP loads (R33, R366) -/

theorem exec_plp (s : State) : exec .plp s = .next ((s.pop8.setP (restoredP s.p s.top8)).advance 1) := rfl

theorem flag_setP_restoredP (s : State) (image : Byte) (f : Flag) :
    (s.setP (restoredP s.p image)).flag f = if f = .b ∨ f = .unused then s.flag f else flagOf image f :=
  flagOf_restoredP s.p image f

theorem setP_restoredP_frame (s : State) (image : Byte) :
    Frame [] [.n, .v, .d, .i, .z, .c] [] s (s.setP (restoredP s.p image)) := by
  refine ⟨?_, fun f hf => ?_, KeepsMemory.of_mem_eq rfl, rfl, rfl, rfl, rfl⟩
  · apply KeepsRegs.of_eq <;> simp
  · have kept : f = .b ∨ f = .unused := by cases f <;> simp_all
    rw [flag_setP_restoredP, if_pos kept]

theorem flag_setP_restoredP_of_loaded (s : State) (image : Byte) :
    ∀ f ∈ [Flag.n, .v, .d, .i, .z, .c], (s.setP (restoredP s.p image)).flag f = flagOf image f := by
  intro f hf
  have loaded : ¬ (f = .b ∨ f = .unused) := by rintro (rfl | rfl) <;> simp at hf
  rw [flag_setP_restoredP, if_neg loaded]

/-! ## The three bytes PUL loads (R370) -/

theorem exec_pul (s : State) :
    exec .pul s = .next (((((s.pop16.pop8).setY s.top8).setX s.pop8.top8).setA s.pop16.top8).advance 1) := rfl

theorem setX_frame (s : State) (v : Byte) : Frame [.x] [] [] s (s.setX v) := by
  refine ⟨?_, fun f _ => rfl, KeepsMemory.of_mem_eq rfl, rfl, rfl, rfl, rfl⟩
  apply KeepsRegs.of_eq <;> simp

theorem top8_pop8 (s : State) : s.pop8.top8 = s.read (stackAddr (s.sp + 2)) := by
  simp [State.top8]

theorem top8_pop16 (s : State) : s.pop16.top8 = s.read (stackAddr (s.sp + 3)) := by
  simp [State.top8]

theorem pop16_pop8_sp (s : State) : s.pop16.pop8.sp = s.sp + 3 := by simp

/-- Settles O49: PLA, PLX, PLY are loads on the pulled stack, PLP the flag restore on it; PUL is three pulls and three setters. -/
theorem pullsIncrementSAndLoad : Obligations.PullsIncrementSAndLoad := by
  intro s
  refine ⟨?pla, ?plx, ?ply, ?plp, ?pul⟩
  case pla =>
    obtain ⟨ha, hnz, hpc, -, hframe⟩ := loadA_next (s := s.pop8) (m := s.top8) (len := 1) rfl
    exact Line.means.does ⟨⟨rfl, rfl, rfl⟩, exec_pla s⟩ hpc ⟨ha, hnz, rfl, hframe.of_pop8⟩
  case plx =>
    obtain ⟨hx, hnz, hpc, -, hframe⟩ := loadX_next (s := s.pop8) (m := s.top8) (len := 1) rfl
    exact Line.means.does ⟨⟨rfl, rfl, rfl⟩, exec_plx s⟩ hpc ⟨hx, hnz, rfl, hframe.of_pop8⟩
  case ply =>
    obtain ⟨hy, hnz, hpc, -, hframe⟩ := loadY_next (s := s.pop8) (m := s.top8) (len := 1) rfl
    exact Line.means.does ⟨⟨rfl, rfl, rfl⟩, exec_ply s⟩ hpc ⟨hy, hnz, rfl, hframe.of_pop8⟩
  case plp =>
    have hframe := (setP_restoredP_frame s.pop8 s.top8).of_pop8
    exact Line.means.does ⟨⟨rfl, rfl, rfl⟩, exec_plp s⟩ rfl
      ⟨flag_setP_restoredP_of_loaded s.pop8 s.top8, rfl, hframe.advance 1⟩
  case pul =>
    have pulled := (pop16_frame s).trans (pop8_frame s.pop16)
    have loaded := (((pulled.trans (setY_frame _ s.top8)).trans (setX_frame _ s.pop8.top8)).trans
      (setA_frame _ s.pop16.top8)).advance 1
    exact Line.means.does ⟨⟨rfl, rfl, rfl⟩, exec_pul s⟩ rfl
      ⟨rfl, top8_pop8 s, top8_pop16 s, pop16_pop8_sp s, loaded.mono (by simp) (fun _ h => h) (fun _ h => h)⟩

end Sys2Proof.Machine

/-! SUPPORT. The instructions of the I register line by line: reads through I, its push and pulls, JPI and TIP (48_threaded.md). -/

namespace Sys2Proof.Machine

/-! ## Reads through I (R390 to R394) -/

theorem setIreg_frame (s : State) (v : Word) : Frame [.i] [] [] s (s.setIreg v) := by
  refine ⟨?_, fun f _ => rfl, KeepsMemory.of_mem_eq rfl, rfl, rfl, rfl, rfl⟩
  apply KeepsRegs.of_eq <;> simp

/-- A step of a word by one wraps at 65536 (R141, R394). -/
theorem word_add_one_toNat (v : Word) : (v + 1).toNat = (v.toNat + 1) % 65536 := BitVec.toNat_add v 1

theorem exec_nxt (s : State) : exec .nxt s = .next ((s.setPc (s.readWord s.ireg)).setIreg (s.ireg + 2)) := rfl

theorem exec_lii (s : State) : exec .lii s = .next ((s.setIreg (s.readWord s.ireg)).advance 1) := rfl

theorem exec_lai (s : State) : exec .lai s = .next ((s.setA (s.read s.ireg)).advance 1) := rfl

theorem exec_lan (s : State) : exec .lan s = .next (((s.setA (s.read s.ireg)).setIreg (s.ireg + 1)).advance 1) := rfl

theorem exec_ini (s : State) : exec .ini s = .next ((s.setIreg (s.ireg + 1)).advance 1) := rfl

/-- Settles O51: each of the five is one or two setters, of A, I and PC, and none of them reaches P or memory. -/
theorem threadedCodeThroughI : Obligations.ThreadedCodeThroughI := by
  intro s target
  refine ⟨Line.means.jumps ⟨⟨rfl, rfl, rfl⟩, exec_nxt s⟩ rfl ?nxt, Line.means.does ⟨⟨rfl, rfl, rfl⟩, exec_lii s⟩ rfl ?lii,
    Line.means.does ⟨⟨rfl, rfl, rfl⟩, exec_lai s⟩ rfl ?lai, Line.means.does ⟨⟨rfl, rfl, rfl⟩, exec_lan s⟩ rfl ?lan,
    Line.means.does ⟨⟨rfl, rfl, rfl⟩, exec_ini s⟩ rfl ?ini⟩
  case nxt => exact ⟨rfl, (setIreg_frame s (s.ireg + 2)).setPc target⟩
  case lii => exact ⟨rfl, (setIreg_frame s target).advance 1⟩
  case lai => exact ⟨rfl, (setA_frame s _).advance 1⟩
  case lan => exact ⟨rfl, word_add_one_toNat s.ireg, ((setA_frame s _).trans (setIreg_frame _ (s.ireg + 1))).advance 1⟩
  case ini => exact ⟨word_add_one_toNat s.ireg, (setIreg_frame s (s.ireg + 1)).advance 1⟩

/-! ## I on the stack (R395, R396, R399) -/

/-- A line that pushes a word stores its two bytes, high byte first, and changes S alone (R72). -/
theorem push16_does {α : Type} {l : Line α} {s : State} {v : Word}
    (h : l.means s (.next ((s.push16 v).advance l.bytes.length))) :
    l.does s fun t => Stored (stackAddr s.sp) (hiByte v) s t ∧ Stored (stackAddr (s.sp - 1)) (loByte v) s t ∧
      t.sp = s.sp - 2 ∧ Frame [.s] [] [stackAddr s.sp, stackAddr (s.sp - 1)] s t := by
  obtain ⟨hhigh, hlow, hsp, hframe⟩ := push16_spec s v
  exact h.does rfl ⟨hhigh.of_read rfl, hlow.of_read rfl, hsp, hframe.advance _⟩

/-- The pull of a word into I, which PLI is and PIA begins with. -/
theorem pop16_setIreg_frame (s : State) (v : Word) : Frame [.i, .s] [] [] s (s.pop16.setIreg v) :=
  ((pop16_frame s).trans (setIreg_frame s.pop16 v)).mono (by simp) (fun _ h => h) (fun _ h => h)

theorem exec_phi (s : State) : exec .phi s = .next ((s.push16 s.ireg).advance 1) := rfl

theorem exec_pli (s : State) : exec .pli s = .next ((s.pop16.setIreg s.top16).advance 1) := rfl

theorem exec_pia (s : State) : exec .pia s = .next
    (((((s.pop16.setIreg (s.top16 + 1)).setA (s.read s.top16)).setX (s.read s.top16)).setNZ (s.read s.top16)).advance 1) := rfl

/-- Settles O52: PHI is one word pushed, PLI one pulled into I; PIA reads through the pulled word, before its increment, for A, X, N
and Z. -/
theorem stackingOfI : Obligations.StackingOfI := by
  intro s pulled
  have top : s.top16 = pulled := top16_eq s
  refine ⟨push16_does ⟨⟨rfl, rfl, rfl⟩, exec_phi s⟩, Line.means.does ⟨⟨rfl, rfl, rfl⟩, exec_pli s⟩ rfl ?pli,
    Line.means.does ⟨⟨rfl, rfl, rfl⟩, exec_pia s⟩ rfl ?pia⟩ <;> rw [top]
  case pli => exact ⟨rfl, pop16_sp s, (pop16_setIreg_frame s pulled).advance 1⟩
  case pia =>
    have loaded := (((pop16_setIreg_frame s (pulled + 1)).trans (setA_frame _ (s.read pulled))).trans
      (setX_frame _ (s.read pulled))).trans (setNZ_frame _ (s.read pulled))
    exact ⟨rfl, rfl, rfl, pop16_sp s, FlagsNZ.of_setNZ _ (s.read pulled),
      (loaded.mono (by simp) (fun _ h => h) (fun _ h => h)).advance 1⟩

/-! ## JPI and TIP (R397, R398) -/

/-- JPI goes to the word at its operand and leaves the address of the next instruction in I. -/
theorem jpi_completes (nn : Word) (s : State) : Completes (.jpi nn) s fun t =>
    t.pc = s.readWord nn ∧ t.ireg = s.pc + 3 ∧ Frame [.i] [] [] s t :=
  ⟨(s.setIreg (s.pc + 3)).setPc (s.readWord nn), rfl, rfl, rfl, (setIreg_frame s (s.pc + 3)).setPc (s.readWord nn)⟩

/-- TIP goes to I. -/
theorem tip_completes (s : State) : Completes .tip s fun t => t.pc = s.ireg ∧ Frame [] [] [] s t :=
  ⟨s.setPc s.ireg, rfl, rfl, Frame.refl_of (fun r => by cases r <;> rfl) rfl rfl ⟨rfl, rfl, rfl, rfl⟩⟩

/-- Settles O53: the address JPI leaves in I is the one TIP goes to, so the pair changes I alone. -/
theorem jumpThroughIAndBack : Obligations.JumpThroughIAndBack := by
  intro nn s
  refine ⟨⟨⟨rfl, rfl, rfl⟩, jpi_completes nn s⟩, ⟨⟨rfl, rfl, rfl⟩, tip_completes s⟩, ?back⟩
  case back =>
    obtain ⟨t, hjpi, -, hi, hcall⟩ := jpi_completes nn s
    obtain ⟨u, htip, hpc, hreturn⟩ := tip_completes t
    exact ⟨t, hjpi, u, htip, hpc.trans hi, hcall.trans hreturn⟩

end Sys2Proof.Machine

/-! SUPPORT. The flag instructions, NOP and RTI line by line: one flag written, nothing at all, and the return from an exception
(49_flags_system.md). -/

namespace Sys2Proof.Machine

/-! ## One flag written, and nothing (R410 to R417) -/

/-- CLC, SEC, CLD, SED, CLI, SEI, CLV are one flag written, at the value each rule gives. -/
theorem setFlag_does {α : Type} {l : Line α} {s : State} {f : Flag} {v : Bool}
    (h : l.means s (.next ((s.setFlag f v).advance l.bytes.length))) :
    l.does s fun t => t.flag f = v ∧ Frame [] [f] [] s t := by
  have written : ((s.setFlag f v).advance l.bytes.length).flag f = v := by
    rw [State.flag_advance, State.flag_setFlag, if_pos rfl]
  exact h.does rfl ⟨written, (setFlag_frame s f v).advance _⟩

theorem advance_frame (s : State) (len : Nat) : Frame [] [] [] s (s.advance len) :=
  Frame.refl_of (fun r => by cases r <;> rfl) rfl rfl ⟨rfl, rfl, rfl, rfl⟩

theorem exec_nop (s : State) : exec .nop s = .next (s.advance 1) := rfl

/-- Settles O54: the seven flag lines are one flag written, each its own; NOP is the step of PC alone. -/
theorem flagInstructionsAndNop : Obligations.FlagInstructionsAndNop := by
  intro s
  simp only [List.forall_mem_cons]
  refine ⟨⟨setFlag_does ?clc, setFlag_does ?sec, setFlag_does ?cld, setFlag_does ?sed, setFlag_does ?cli, setFlag_does ?sei,
    setFlag_does ?clv, List.forall_mem_nil _⟩, ?nop⟩
  case nop => exact Line.means.does ⟨⟨rfl, rfl, rfl⟩, exec_nop s⟩ rfl ⟨rfl, rfl, advance_frame s 1⟩
  all_goals exact ⟨⟨rfl, rfl, rfl⟩, rfl⟩

/-! ## The return from an exception (R419) -/

theorem exec_rti (s : State) : exec .rti s = .next s.returnFromException := rfl

/-- The flags RTI leaves are those of PLP: the pull of PC that follows does not reach P. -/
theorem flag_returnFromException (s : State) :
    ∀ f ∈ [Flag.n, .v, .d, .i, .z, .c], s.returnFromException.flag f = flagOf (s.read (stackAddr (s.sp + 1))) f :=
  flag_setP_restoredP_of_loaded s.pop8 s.top8

/-- Settles O10: PC, S and the frame are `returnFromException_spec`, for every state; the six flags are the pulled byte's. -/
theorem returnFromInterruptEffect : Obligations.ReturnFromInterruptEffect := by
  intro s
  obtain ⟨-, hpc, hsp, -, hframe⟩ := returnFromException_spec s
  exact Line.means.jumps ⟨⟨rfl, rfl, rfl⟩, exec_rti s⟩ hpc ⟨flag_returnFromException s, hsp, hframe⟩

end Sys2Proof.Machine

/-! SUPPORT. Decoding and encoding are inverse to each other: the cells of the opcode map against the encoder, and the decoder's answer
as a fact about the bytes from the operation code on (30_encoding.md). -/

namespace Sys2Proof

/-! ## The opcode map against the encoder -/

/-- The instruction a layout makes of operands: `x`, `y`, `z` the byte operands in the order of the assembly form, `nn` the word. -/
def Form.make (x y z : Byte) (nn : Word) : Form → Instr
  | .impl i => i
  | .imm f => f x
  | .zp f => f x
  | .rel f => f x
  | .abs f => f nn
  | .immZp f => f x y
  | .zpRel f => f x y
  | .maskAbs f => f x nn
  | .absMaskRel f => f nn y z

/-- The bytes of that instruction, by the byte columns of R101: the low byte of a word first (R103). -/
def Form.code (op x y z : Byte) (nn : Word) : Form → List Byte
  | .impl _ => [op]
  | .imm _ => [op, x]
  | .zp _ => [op, x]
  | .rel _ => [op, x]
  | .abs _ => [op, loByte nn, hiByte nn]
  | .immZp _ => [op, x, y]
  | .zpRel _ => [op, x, y]
  | .maskAbs _ => [op, x, loByte nn, hiByte nn]
  | .absMaskRel _ => [op, loByte nn, hiByte nn, y, z]

/-- An operation code is its two hexadecimal digits. -/
theorem ofNat_digits (op : Byte) : BitVec.ofNat 8 (16 * (op.toNat / 16) + op.toNat % 16) = op := by
  rw [Nat.div_add_mod, BitVec.ofNat_toNat, BitVec.setWidth_eq]

/-- What holds of every cell of the map by row and column holds of every operation code. -/
theorem forall_opcode_of_row_col {P : Byte → Prop} (h : ∀ row col : Fin 16, P (BitVec.ofNat 8 (16 * row + col))) (op : Byte) : P op :=
  ofNat_digits op ▸ h ⟨op.toNat / 16, by omega⟩ ⟨op.toNat % 16, by omega⟩

/-- In every filled cell the encoder writes the cell's operation code and the operands in the order of its layout. -/
theorem map_encode_make (op x y z : Byte) (nn : Word) :
    (lookupOpcode op).map (fun form => encode (form.make x y z nn)) = (lookupOpcode op).map (Form.code op x y z nn) := by
  induction op using forall_opcode_of_row_col with | h row col
  fin_cases row <;> fin_cases col <;> rfl

theorem opcodeLength_eq (op : Byte) : opcodeLength op = ((lookupOpcode op).map Form.length).getD 0 := by
  induction op using forall_opcode_of_row_col with | h row col
  fin_cases row <;> fin_cases col <;> rfl

theorem encode_make {op : Byte} {form : Form} (cell : lookupOpcode op = some form) (x y z : Byte) (nn : Word) :
    encode (form.make x y z nn) = form.code op x y z nn := by
  simpa only [cell, Option.map_some, Option.some_inj] using map_encode_make op x y z nn

/-- The bytes an instruction is assembled from are its encoding: no bit of them is dropped (R101, R103). -/
theorem encode_assemble {b : Nat → Byte} {form : Form} (cell : lookupOpcode (b 0) = some form) :
    encode (form.assemble b) = (List.range form.length).map b := by
  have code := encode_make cell
  cases form with
  | impl i => exact code 0 0 0 0
  | imm f => exact code (b 1) 0 0 0
  | zp f => exact code (b 1) 0 0 0
  | rel f => exact code (b 1) 0 0 0
  | immZp f => exact code (b 1) (b 2) 0 0
  | zpRel f => exact code (b 1) (b 2) 0 0
  | abs f => exact (code 0 0 0 (joinBytes (b 2) (b 1))).trans (by simp [Form.code, Form.length, List.range_succ])
  | maskAbs f => exact (code (b 1) 0 0 (joinBytes (b 3) (b 2))).trans (by simp [Form.code, Form.length, List.range_succ])
  | absMaskRel f => exact (code 0 (b 3) (b 4) (joinBytes (b 2) (b 1))).trans (by simp [Form.code, Form.length, List.range_succ])

theorem decodeAt_encode_of_lookup {i : Instr} {op : Byte} {operands rest : List Byte} {form : Form} (code : encode i = op :: operands)
    (cell : lookupOpcode op = some form) (made : form.assemble (fun k => (op :: operands ++ rest).getD k 0) = i) :
    decodeAt (fun k => (encode i ++ rest).getD k 0) = .ok i := by
  rw [code, decodeAt]
  simp only [List.cons_append, List.getD_cons_zero, cell]
  exact congrArg Except.ok made

theorem decodeAt_encode (i : Instr) (rest : List Byte) : decodeAt (fun k => (encode i ++ rest).getD k 0) = .ok i := by
  cases i <;> exact decodeAt_encode_of_lookup rfl rfl (by simp [Form.assemble])

/-! ## The decoder's answer -/

theorem decodeAt_eq_ok_iff {b : Nat → Byte} {i : Instr} :
    decodeAt b = .ok i ↔ ∃ form, lookupOpcode (b 0) = some form ∧ form.assemble b = i := by
  unfold decodeAt
  cases lookupOpcode (b 0) with
  | none => simp
  | some form => simp

/-- Only the bytes the instruction takes are looked at (R111). -/
theorem Form.assemble_congr {form : Form} {b b' : Nat → Byte} (agree : ∀ k < form.length, b k = b' k) :
    form.assemble b = form.assemble b' := by
  cases form <;> simp_all [Form.assemble, Form.length]

theorem Form.length_pos (form : Form) : 0 < form.length := by
  cases form <;> exact Nat.succ_pos _

/-- The bytes from the operation code on are those of the instruction decoded from them. -/
theorem encode_of_decodeAt {b : Nat → Byte} {i : Instr} (h : decodeAt b = .ok i) :
    encode i = (List.range (encode i).length).map b := by
  obtain ⟨form, cell, rfl⟩ := decodeAt_eq_ok_iff.1 h
  rw [encode_assemble cell, List.length_map, List.length_range]

theorem decodeAt_congr {b b' : Nat → Byte} {i : Instr} (h : decodeAt b = .ok i) (agree : ∀ k < (encode i).length, b k = b' k) :
    decodeAt b' = .ok i := by
  obtain ⟨form, cell, rfl⟩ := decodeAt_eq_ok_iff.1 h
  rw [encode_assemble cell, List.length_map, List.length_range] at agree
  exact decodeAt_eq_ok_iff.2 ⟨form, agree 0 form.length_pos ▸ cell, (Form.assemble_congr agree).symm⟩

/-- Decoding a string is decoding at its first byte, if the string is long enough; the rest is what the instruction does not take. -/
theorem decode_eq_ok_iff {bytes rest : List Byte} {i : Instr} :
    decode bytes = .ok (i, rest) ↔
      decodeAt (fun k => bytes.getD k 0) = .ok i ∧ (encode i).length ≤ bytes.length ∧ rest = bytes.drop (encode i).length := by
  have taken {form : Form} (cell : lookupOpcode (bytes.getD 0 0) = some form) :
      (encode (form.assemble fun k => bytes.getD k 0)).length = form.length := by
    rw [encode_assemble cell, List.length_map, List.length_range]
  rw [decodeAt_eq_ok_iff]
  constructor
  · intro answered
    cases bytes with
    | nil => simp [decode] at answered
    | cons op operands =>
      cases cell : lookupOpcode op with
      | none => simp [decode_cons_of_lookup_none cell] at answered
      | some form =>
        rw [decode_cons_of_lookup_some cell] at answered
        split at answered
        case isTrue _ => simp at answered
        case isFalse long =>
          obtain ⟨rfl, rfl⟩ := Prod.mk.inj (Except.ok.inj answered)
          rw [taken cell]
          exact ⟨⟨form, cell, rfl⟩, Nat.le_of_not_lt long, rfl⟩
  · rintro ⟨⟨form, cell, rfl⟩, long, rfl⟩
    rw [taken cell] at long ⊢
    cases bytes with
    | nil => exact absurd form.length_pos (Nat.not_lt.2 long)
    | cons op operands => rw [decode_cons_of_lookup_some (op := op) cell, if_neg (Nat.not_lt.2 long)]

/-- Settles O1: the bytes of an encoding make the instruction again, whatever follows them, and they are exactly the bytes taken. -/
theorem decodeInvertsEncode : Obligations.DecodeInvertsEncode := by
  intro i rest
  exact decode_eq_ok_iff.2 ⟨decodeAt_encode i rest, by simp, by simp⟩

/-- What is decoded is the encoding and the rest. -/
theorem eq_encode_append_of_decode {bytes rest : List Byte} {i : Instr} (h : decode bytes = .ok (i, rest)) :
    bytes = encode i ++ rest := by
  obtain ⟨first, long, rfl⟩ := decode_eq_ok_iff.1 h
  have taken : encode i = bytes.take (encode i).length := by
    rw [encode_of_decodeAt first]
    apply List.ext_getElem
    · simpa using long
    · intro k hk _
      have inside : k < bytes.length := by
        simp at hk
        omega
      simp [inside]
  rw [taken, List.length_take, min_eq_left long, List.take_append_drop]

theorem wellFormedCode_encode (i : Instr) : wellFormedCode (encode i) = true := by
  cases i <;> rfl

/-- A well-formed string has a filled cell and the length of its layout. -/
theorem exists_lookup_of_wellFormedCode {op : Byte} {operands : List Byte} (h : wellFormedCode (op :: operands) = true) :
    ∃ form, lookupOpcode op = some form ∧ form.length = (op :: operands).length := by
  obtain ⟨defined, length⟩ : opcodeLength op ≠ 0 ∧ operands.length + 1 = opcodeLength op := by
    simpa [wellFormedCode, opcodeDefined] using h
  rw [opcodeLength_eq] at defined length
  cases cell : lookupOpcode op with
  | none => simp [cell] at defined
  | some form => exact ⟨form, rfl, by simpa [cell] using length.symm⟩

/-- Settles O2: the bytes taken are the encoding; a well-formed string has a filled cell and its length, and the encoder writes
well-formed code. -/
theorem decodedBytesAreTheEncoding : Obligations.DecodedBytesAreTheEncoding := by
  refine ⟨fun bytes rest i h => eq_encode_append_of_decode h, fun bytes => ⟨fun wellFormed => ?_, ?_⟩⟩
  · cases bytes with
    | nil => simp [wellFormedCode] at wellFormed
    | cons op operands =>
      obtain ⟨form, cell, length⟩ := exists_lookup_of_wellFormedCode wellFormed
      rw [decode_cons_of_lookup_some cell, length, if_neg (lt_irrefl _), List.drop_length]
      exact ⟨_, rfl⟩
  · rintro ⟨i, decoded⟩
    rw [eq_encode_append_of_decode decoded, List.append_nil]
    exact wellFormedCode_encode i

/-- Settles O3: fixed words, decoded by evaluation. -/
theorem decodeOfWordsFromTheOpcodeMap : Obligations.DecodeOfWordsFromTheOpcodeMap := by
  unfold Obligations.DecodeOfWordsFromTheOpcodeMap
  decide

end Sys2Proof

namespace Sys2Proof.Machine

/-! ## The fetch and the step -/

theorem codeByte_zero (s : State) : s.codeByte 0 = s.read s.pc := by
  simp [State.codeByte]

theorem fetchInstr_eq_ok_iff {s : State} {i : Instr} : s.fetchInstr = .ok i ↔ decodeAt s.codeByte = .ok i := by
  unfold State.fetchInstr
  cases decodeAt s.codeByte <;> simp

theorem decodeAt_of_lookup_none {b : Nat → Byte} (blank : lookupOpcode (b 0) = none) : decodeAt b = .error (.notUsed (b 0)) := by
  simp only [decodeAt, blank]

theorem fetchInstr_of_not_used {s : State} (h : s.read s.pc ∈ notUsedCodes) :
    s.fetchInstr = .error (.illegalOpcode s.pc (s.read s.pc)) := by
  have blank : lookupOpcode (s.codeByte 0) = none := by rwa [codeByte_zero, lookupOpcode_eq_none_iff]
  simp only [State.fetchInstr, decodeAt_of_lookup_none blank, codeByte_zero]

theorem exists_fetchInstr {s : State} (h : s.read s.pc ∉ notUsedCodes) : ∃ i, s.fetchInstr = .ok i := by
  have cell : lookupOpcode (s.codeByte 0) ≠ none := by rwa [codeByte_zero, Ne, lookupOpcode_eq_none_iff]
  obtain ⟨form, cell⟩ := Option.ne_none_iff_exists'.1 cell
  exact ⟨_, fetchInstr_eq_ok_iff.2 (decodeAt_eq_ok_iff.2 ⟨form, cell, rfl⟩)⟩

theorem step_of_fetchInstr {s : State} {i : Instr} (quiet : s.acceptedEvent = none) (fetched : s.fetchInstr = .ok i) :
    step s = exec i s := by
  simp only [step, quiet, fetched]

theorem step_of_not_used {s : State} (quiet : s.acceptedEvent = none) (h : s.read s.pc ∈ notUsedCodes) :
    step s = .fault (.illegalOpcode s.pc (s.read s.pc)) := by
  simp only [step, quiet, fetchInstr_of_not_used h]

theorem fetchInstr_of_decode {s : State} {bytes rest : List Byte} {i : Instr}
    (placed : ∀ k, k < bytes.length → s.read (s.pc + BitVec.ofNat 16 k) = bytes.getD k 0) (decoded : decode bytes = .ok (i, rest)) :
    s.fetchInstr = .ok i := by
  obtain ⟨first, long, -⟩ := decode_eq_ok_iff.1 decoded
  exact fetchInstr_eq_ok_iff.2 (decodeAt_congr first fun k hk => (placed k (by omega)).symm)

/-- Code in memory at PC is fetched. -/
theorem fetchInstr_of_codeAtPc {s : State} {i : Instr} (placed : CodeAtPc i s) : s.fetchInstr = .ok i :=
  fetchInstr_of_decode placed (by simpa using decodeInvertsEncode i [])

/-- The operation code at PC is the first byte of the encoding of the instruction fetched. -/
theorem encode_head_of_fetchInstr {s : State} {i : Instr} (fetched : s.fetchInstr = .ok i) : (encode i).head? = some (s.read s.pc) := by
  obtain ⟨form, cell, rfl⟩ := decodeAt_eq_ok_iff.1 (fetchInstr_eq_ok_iff.1 fetched)
  obtain ⟨length, hlength⟩ := Nat.exists_eq_succ_of_ne_zero form.length_pos.ne'
  rw [encode_assemble cell, hlength, List.range_succ_eq_map, List.map_cons, codeByte_zero, List.head?_cons]

/-- Settles O5: the fetch decodes the bytes at PC, and at a quiet boundary the step is what was fetched. -/
theorem stepRunsTheDecodedInstruction : Obligations.StepRunsTheDecodedInstruction :=
  fun _ _ _ _ quiet placed decoded => step_of_fetchInstr quiet (fetchInstr_of_decode placed decoded)

end Sys2Proof.Machine

/-! SUPPORT. Every instruction against the tables: one lemma per shared operation and one case per mnemonic say that an instruction
completes, writes the registers and flags its row of the tables names, does to memory what its bus writes do, and goes on at the next
instruction unless it is a control transfer. The statements about all instructions follow from that. -/

namespace Sys2Proof.Machine

/-! ## What the tables say of an instruction -/

/-- The tables of writers name the mnemonic for each of the registers and flags. -/
def mayWrite (name : String) (regs : List Reg) (flags : List Flag) : Bool :=
  regs.all (fun r => decide (name ∈ regWriters r)) && flags.all (fun f => decide (name ∈ flagWriters f))

/-- The mnemonic is one that writes memory, and the addresses are in the page it writes: page 01 for a push (R73), page 00 for the
stores of zero page (R158, R163, R193). -/
structure WritesAt (name : String) (addrs : List Word) : Prop where
  writer : name ∈ storeMnemonics ∨ name ∈ pushMnemonics
  stack : name ∈ pushMnemonics → ∀ addr ∈ addrs, hiByte addr = 0x01
  zeroPage : name ∈ zeroPageStores → ∀ addr ∈ addrs, hiByte addr = 0x00

theorem WritesAt.of_store {name : String} {addrs : List Word}
    (stores : name ∈ storeMnemonics ∧ name ∉ pushMnemonics ∧ name ∉ zeroPageStores) : WritesAt name addrs :=
  ⟨.inl stores.1, fun h => absurd h stores.2.1, fun h => absurd h stores.2.2⟩

theorem WritesAt.of_zeroPageStore {name : String} {n : Byte} (stores : name ∈ storeMnemonics ∧ name ∉ pushMnemonics) :
    WritesAt name [eaZp n] :=
  ⟨.inl stores.1, fun h => absurd h stores.2, fun _ addr h => by rw [List.mem_singleton.1 h]; exact hiByte_joinBytes 0x00 n⟩

theorem WritesAt.of_push {name : String} {sps : List Byte} (pushes : name ∈ pushMnemonics ∧ name ∉ zeroPageStores) :
    WritesAt name (sps.map stackAddr) := by
  refine ⟨.inr pushes.1, fun _ addr h => ?_, fun h => absurd h pushes.2⟩
  obtain ⟨sp, -, rfl⟩ := List.mem_map.1 h
  exact hiByte_joinBytes 0x01 sp

/-- What the tables and the bus sequence say of a run of `i` from `s` to `t`. -/
structure Accounted (i : Instr) (s t : State) : Prop where
  /-- The table of register writers (files 41 to 49). -/
  regs : ∀ r, i.mnemonic ∉ regWriters r → t.reg r = s.reg r
  /-- The table of flag writers (R31). -/
  flags : ∀ f, i.mnemonic ∉ flagWriters f → t.flag f = s.flag f
  /-- The requests and the map are the platform's (R61, R436). -/
  platform : KeepsPlatform s t
  /-- Memory is what the bus writes make of it (R80). -/
  mem : t.mem = (applyWrites s (busSequence i s)).mem
  /-- Memory keeps every byte, or the mnemonic writes memory and where it writes. -/
  place : t.mem = s.mem ∨ ∃ addrs, WritesAt i.mnemonic addrs ∧ KeepsMemory addrs s t
  /-- `PC <- PCnext` (R28). -/
  pc : i.mnemonic ∉ controlTransfers → t.pc = s.pc + BitVec.ofNat 16 (encode i).length

/-- The outcome goes on at `pc` with the memory of `u`, and from `s` on only what is listed has changed. -/
def Answers (s u : State) (pc : Word) (regs : List Reg) (flags : List Flag) (addrs : List Word) (r : Result) : Prop :=
  ∃ t, r = .next t ∧ t.mem = u.mem ∧ t.pc = pc ∧ Frame regs flags addrs s t

section

variable {i : Instr} {s u : State} {pc : Word} {regs : List Reg} {flags : List Flag} {addrs : List Word} {len : Nat} {r : Result}
  (name : String)

theorem Answers.accounted (answers : Answers s u pc regs flags addrs (exec i s)) (named : i.mnemonic = name)
    (allowed : mayWrite name regs flags = true) (bus : (applyWrites s (busSequence i s)).mem = u.mem)
    (place : u.mem = s.mem ∨ WritesAt name addrs)
    (next : name ∉ controlTransfers → pc = s.pc + BitVec.ofNat 16 (encode i).length) : Completes i s (Accounted i s) := by
  subst named
  obtain ⟨t, meaning, mem, hpc, hregs, hflags, hmem, platform⟩ := answers
  obtain ⟨allowedRegs, allowedFlags⟩ :
      (∀ r ∈ regs, i.mnemonic ∈ regWriters r) ∧ ∀ f ∈ flags, i.mnemonic ∈ flagWriters f := by
    simpa [mayWrite] using allowed
  exact ⟨t, meaning, fun r hr => hregs r fun h => hr (allowedRegs r h), fun f hf => hflags f fun h => hf (allowedFlags f h), platform,
    mem.trans bus.symm, place.imp mem.trans fun writes => ⟨addrs, writes, hmem⟩, fun h => hpc.trans (next h)⟩

/-- An instruction that writes no memory and goes on at the next one. -/
theorem Accounted.goesOn (named : i.mnemonic = name) (meaning : exec i s = r)
    (answers : Answers s s (s.pc + BitVec.ofNat 16 len) regs flags addrs r) (allowed : mayWrite name regs flags = true)
    (bus : (applyWrites s (busSequence i s)).mem = s.mem) (length : (encode i).length = len) : Completes i s (Accounted i s) :=
  (meaning ▸ answers).accounted name named allowed bus (.inl rfl) fun _ => by rw [length]

/-- An instruction that writes memory and goes on at the next one. -/
theorem Accounted.stores (named : i.mnemonic = name) (meaning : exec i s = r)
    (answers : Answers s u (s.pc + BitVec.ofNat 16 len) regs flags addrs r) (allowed : mayWrite name regs flags = true)
    (bus : (applyWrites s (busSequence i s)).mem = u.mem) (length : (encode i).length = len) (place : WritesAt name addrs) :
    Completes i s (Accounted i s) :=
  (meaning ▸ answers).accounted name named allowed bus (.inr place) fun _ => by rw [length]

/-- A control transfer that writes no memory. -/
theorem Accounted.transfers (named : i.mnemonic = name) (meaning : exec i s = r) (answers : Answers s s pc regs flags addrs r)
    (allowed : mayWrite name regs flags = true) (bus : (applyWrites s (busSequence i s)).mem = s.mem)
    (transfer : name ∈ controlTransfers) : Completes i s (Accounted i s) :=
  (meaning ▸ answers).accounted name named allowed bus (.inl rfl) fun other => absurd transfer other

/-- A control transfer that writes memory: JSR, JSB, BRK. -/
theorem Accounted.calls (named : i.mnemonic = name) (meaning : exec i s = r) (answers : Answers s u pc regs flags addrs r)
    (allowed : mayWrite name regs flags = true) (bus : (applyWrites s (busSequence i s)).mem = u.mem)
    (transfer : name ∈ controlTransfers) (place : WritesAt name addrs) : Completes i s (Accounted i s) :=
  (meaning ▸ answers).accounted name named allowed bus (.inr place) fun other => absurd transfer other

end

/-! ## The shared operations -/

section

variable (s : State) (len : Nat)

theorem loadA_answers (m : Byte) : Answers s s (s.pc + BitVec.ofNat 16 len) [.a] [.n, .z] [] (loadA m len s) := by
  obtain ⟨-, -, pc, mem, frame⟩ := loadA_next (s := s) (m := m) (len := len) rfl
  exact ⟨_, rfl, mem, pc, frame⟩

theorem loadX_answers (m : Byte) : Answers s s (s.pc + BitVec.ofNat 16 len) [.x] [.n, .z] [] (loadX m len s) := by
  obtain ⟨-, -, pc, mem, frame⟩ := loadX_next (s := s) (m := m) (len := len) rfl
  exact ⟨_, rfl, mem, pc, frame⟩

theorem loadY_answers (m : Byte) : Answers s s (s.pc + BitVec.ofNat 16 len) [.y] [.n, .z] [] (loadY m len s) := by
  obtain ⟨-, -, pc, mem, frame⟩ := loadY_next (s := s) (m := m) (len := len) rfl
  exact ⟨_, rfl, mem, pc, frame⟩

theorem resultToA_answers (m : Byte) : Answers s s (s.pc + BitVec.ofNat 16 len) [.a] [.n, .z] [] (resultToA m len s) := by
  obtain ⟨-, -, pc, mem, frame⟩ := resultToA_next (s := s) (m := m) (len := len) rfl
  exact ⟨_, rfl, mem, pc, frame⟩

theorem updateX_answers (m : Byte) : Answers s s (s.pc + BitVec.ofNat 16 1) [.x] [.n, .z] [] (updateX m s) := by
  obtain ⟨-, -, pc, mem, frame⟩ := updateX_next (s := s) (m := m) rfl
  exact ⟨_, rfl, mem, pc, frame⟩

theorem updateY_answers (m : Byte) : Answers s s (s.pc + BitVec.ofNat 16 1) [.y] [.n, .z] [] (updateY m s) := by
  obtain ⟨-, -, pc, mem, frame⟩ := updateY_next (s := s) (m := m) rfl
  exact ⟨_, rfl, mem, pc, frame⟩

theorem storeByte_answers (ea : Word) (v : Byte) :
    Answers s (s.write ea v) (s.pc + BitVec.ofNat 16 len) [] [] [ea] (storeByte ea v len s) := by
  obtain ⟨-, pc, mem, frame⟩ := storeByte_next (s := s) (ea := ea) (v := v) (len := len) rfl
  exact ⟨_, rfl, mem, pc, frame⟩

theorem updateMem_answers (ea : Word) (v : Byte) :
    Answers s (s.write ea v) (s.pc + BitVec.ofNat 16 len) [] [.n, .z] [ea] (updateMem ea v len s) := by
  obtain ⟨-, -, pc, mem, frame⟩ := updateMem_next (s := s) (ea := ea) (v := v) (len := len) rfl
  exact ⟨_, rfl, mem, pc, frame⟩

theorem addToA_answers (cin : Bool) (m : Byte) :
    Answers s s (s.pc + BitVec.ofNat 16 len) [.a] [.n, .v, .z, .c] [] (addToA cin m len s) := by
  obtain ⟨⟨-, -, -, frame⟩, pc, mem⟩ := addToA_next (s := s) (cin := cin) (m := m) (len := len) rfl
  exact ⟨_, rfl, mem, pc, frame⟩

theorem subFromA_answers (m : Byte) : Answers s s (s.pc + BitVec.ofNat 16 len) [.a] [.n, .v, .z, .c] [] (subFromA m len s) := by
  obtain ⟨⟨-, -, -, frame⟩, pc, mem⟩ := subFromA_next (s := s) (m := m) (len := len) rfl
  exact ⟨_, rfl, mem, pc, frame⟩

theorem compareWith_answers (reg m : Byte) :
    Answers s s (s.pc + BitVec.ofNat 16 len) [] [.n, .z, .c] [] (compareWith reg m len s) := by
  obtain ⟨-, -, -, pc, mem, frame⟩ := compareWith_next (s := s) (reg := reg) (m := m) (len := len) rfl
  exact ⟨_, rfl, mem, pc, frame⟩

theorem bitTest_answers (m : Byte) : Answers s s (s.pc + BitVec.ofNat 16 len) [] [.n, .v, .z] [] (bitTest m len s) := by
  obtain ⟨-, -, -, pc, mem, frame⟩ := bitTest_next (s := s) (m := m) (len := len) rfl
  exact ⟨_, rfl, mem, pc, frame⟩

theorem shiftAcc_answers (f : Byte → Bool → ShiftResult) :
    Answers s s (s.pc + BitVec.ofNat 16 1) [.a] [.n, .z, .c] [] (shiftAcc f s) := by
  obtain ⟨-, -, -, -, pc, mem, frame⟩ := shiftAcc_next (s := s) (f := f) rfl
  exact ⟨_, rfl, mem, pc, frame⟩

theorem shiftMem_answers (f : Byte → Bool → ShiftResult) (ea : Word) :
    Answers s (s.write ea (f (s.read ea) (s.flag .c)).r) (s.pc + BitVec.ofNat 16 len) [] [.n, .z, .c] [ea] (shiftMem f ea len s) := by
  obtain ⟨-, -, -, -, pc, mem, frame⟩ := shiftMem_next (s := s) (f := f) (ea := ea) (len := len) rfl
  exact ⟨_, rfl, mem, pc, frame⟩

theorem setPc_answers (target : Word) : Answers s s target [] [] [] (.next (s.setPc target)) :=
  ⟨_, rfl, rfl, rfl, Frame.refl_of (fun r => by cases r <;> rfl) rfl rfl ⟨rfl, rfl, rfl, rfl⟩⟩

theorem setFlag_answers (f : Flag) (v : Bool) :
    Answers s s (s.pc + BitVec.ofNat 16 len) [] [f] [] (.next ((s.setFlag f v).advance len)) :=
  ⟨_, rfl, rfl, rfl, (setFlag_frame s f v).advance len⟩

theorem push8_answers (v : Byte) :
    Answers s (s.push8 v) (s.pc + BitVec.ofNat 16 len) [.s] [] ([s.sp].map stackAddr) (.next ((s.push8 v).advance len)) := by
  obtain ⟨-, -, frame⟩ := push8_spec s v
  exact ⟨_, rfl, rfl, rfl, frame.advance len⟩

theorem push16_answers (v : Word) : Answers s (s.push16 v) (s.pc + BitVec.ofNat 16 len) [.s] []
    ([s.sp, s.sp - 1].map stackAddr) (.next ((s.push16 v).advance len)) := by
  obtain ⟨-, -, -, frame⟩ := push16_spec s v
  exact ⟨_, rfl, rfl, rfl, frame.advance len⟩

/-- A call, with the address it pushes and its target. -/
theorem call_answers (ret target : Word) :
    Answers s (s.push16 ret) target [.s] [] ([s.sp, s.sp - 1].map stackAddr) (.next ((s.push16 ret).setPc target)) := by
  obtain ⟨-, -, -, frame⟩ := push16_spec s ret
  exact ⟨_, rfl, rfl, rfl, frame.setPc target⟩

/-- RBA and SBA: a write, and A left unspecified. -/
theorem write_clobberA_answers (ea : Word) (v : Byte) :
    Answers s (s.write ea v) (s.pc + BitVec.ofNat 16 len) [.a] [] [ea] (.next (((s.write ea v).clobberA).advance len)) := by
  obtain ⟨-, frame⟩ := write_spec s ea v
  exact ⟨_, rfl, rfl, rfl, (frame.trans (clobberA_spec _)).advance len⟩

/-- PLA, PLX, PLY: what an operation answers after one byte is pulled, with S among the registers. -/
theorem Answers.of_pop8 {s u : State} {pc : Word} {regs : List Reg} {flags : List Flag} {addrs : List Word} {r : Result}
    (answers : Answers s.pop8 u pc regs flags addrs r) : Answers s u pc (regs ++ [.s]) flags addrs r := by
  obtain ⟨t, hr, mem, hpc, frame⟩ := answers
  exact ⟨t, hr, mem, hpc, frame.of_pop8⟩

end

/-! ## Instructions with an operation of their own -/

section

variable (s : State)

theorem txs_answers : Answers s s (s.pc + BitVec.ofNat 16 1) [.s] [] [] (execTxs s) :=
  ⟨_, rfl, rfl, rfl, (setSp_frame s s.x).advance 1⟩

theorem exc_answers (n : Byte) : Answers s (s.write (eaZpX n s) s.a) (s.pc + BitVec.ofNat 16 2) [.a] [] [eaZpX n s] (execExc n s) := by
  obtain ⟨-, frame⟩ := write_setA_spec s (eaZpX n s) s.a (s.read (eaZpX n s))
  exact ⟨_, rfl, rfl, rfl, frame.advance 2⟩

theorem mpy_answers : Answers s s (s.pc + BitVec.ofNat 16 1) [.a, .y] [.n, .v] [] (execMpy s) :=
  ⟨_, rfl, rfl, rfl,
    ((((setA_frame s _).trans (setY_frame _ _)).trans (setFlag_frame _ .n _)).trans (setFlag_frame _ .v _)).advance 1⟩

theorem mpa_answers : Answers s s (s.pc + BitVec.ofNat 16 1) [.w, .y] [.v, .n] [] (execMpa s) :=
  ⟨_, rfl, rfl, rfl,
    (((((setW_frame s _).trans (setFlag_frame _ .v _)).trans (setFlag_frame _ .n _)).trans (setY_frame _ _)).draw 1).advance 1⟩

theorem rnd_answers : Answers s s (s.pc + BitVec.ofNat 16 1) [.a, .y] [.v, .n] [] (execRnd s) := by
  unfold execRnd
  split
  case isTrue _ =>
    exact ⟨_, rfl, rfl, rfl,
      ((((setA_frame s _).trans (setFlag_frame _ .v _)).trans (setY_frame _ _)).draw 1 |>.trans (setFlag_frame _ .n _)).advance 1⟩
  case isFalse _ =>
    have frame := (((setA_frame s (rndByte s.w)).trans (setFlag_frame _ .v false)).trans (setFlag_frame _ .n (rndByte s.w).msb)).advance 1
    exact ⟨_, rfl, rfl, rfl, frame.mono (by simp) (fun _ h => h) (fun _ h => h)⟩

theorem clw_answers : Answers s s (s.pc + BitVec.ofNat 16 1) [.w] [.v] [] (execClw s) :=
  ⟨_, rfl, rfl, rfl, ((setW_frame s _).trans (setFlag_frame _ .v false)).advance 1⟩

theorem taw_answers : Answers s s (s.pc + BitVec.ofNat 16 1) [.w] [.n, .z] [] (execTaw s) :=
  ⟨_, rfl, rfl, rfl, ((setW_frame s _).trans (setNZ_frame _ s.a)).advance 1⟩

theorem plw_answers : Answers s s (s.pc + BitVec.ofNat 16 1) [.s, .w] [] [] (execPlw s) :=
  ⟨_, rfl, rfl, rfl, ((pop16_frame s).trans (setW_frame s.pop16 s.top16)).advance 1⟩

theorem rts_answers : Answers s s s.top16 [.s] [] [] (execRts s) :=
  ⟨_, rfl, rfl, rfl, (pop16_frame s).setPc s.top16⟩

theorem psh_answers :
    Answers s (((s.push8 s.a).push8 s.x).push8 s.y) (s.pc + BitVec.ofNat 16 1) [.s] []
      ([s.sp, s.sp - 1, s.sp - 2].map stackAddr) (execPsh s) := by
  obtain ⟨-, -, -, -, frame⟩ := push8_push8_push8_spec s s.a s.x s.y
  exact ⟨_, rfl, rfl, rfl, frame.advance 1⟩

theorem plp_answers : Answers s s (s.pc + BitVec.ofNat 16 1) [.s] [.n, .v, .d, .i, .z, .c] [] (execPlp s) :=
  ⟨_, rfl, rfl, rfl, (setP_restoredP_frame s.pop8 s.top8).of_pop8.advance 1⟩

theorem pul_answers : Answers s s (s.pc + BitVec.ofNat 16 1) [.s, .s, .y, .x, .a] [] [] (execPul s) :=
  ⟨_, rfl, rfl, rfl, (((((pop16_frame s).trans (pop8_frame s.pop16)).trans (setY_frame _ s.top8)).trans
    (setX_frame _ s.pop8.top8)).trans (setA_frame _ s.pop16.top8)).advance 1⟩

theorem nxt_answers : Answers s s (s.readWord s.ireg) [.i] [] [] (execNxt s) :=
  ⟨_, rfl, rfl, rfl, (setIreg_frame s (s.ireg + 2)).setPc _⟩

theorem lii_answers : Answers s s (s.pc + BitVec.ofNat 16 1) [.i] [] [] (execLii s) :=
  ⟨_, rfl, rfl, rfl, (setIreg_frame s (s.readWord s.ireg)).advance 1⟩

theorem lai_answers : Answers s s (s.pc + BitVec.ofNat 16 1) [.a] [] [] (execLai s) :=
  ⟨_, rfl, rfl, rfl, (setA_frame s (s.read s.ireg)).advance 1⟩

theorem lan_answers : Answers s s (s.pc + BitVec.ofNat 16 1) [.a, .i] [] [] (execLan s) :=
  ⟨_, rfl, rfl, rfl, ((setA_frame s (s.read s.ireg)).trans (setIreg_frame _ (s.ireg + 1))).advance 1⟩

theorem ini_answers : Answers s s (s.pc + BitVec.ofNat 16 1) [.i] [] [] (execIni s) :=
  ⟨_, rfl, rfl, rfl, (setIreg_frame s (s.ireg + 1)).advance 1⟩

theorem pli_answers : Answers s s (s.pc + BitVec.ofNat 16 1) [.i, .s] [] [] (execPli s) :=
  ⟨_, rfl, rfl, rfl, (pop16_setIreg_frame s s.top16).advance 1⟩

theorem jpi_answers (nn : Word) : Answers s s (targetInd nn s) [.i] [] [] (execJpi nn s) :=
  ⟨_, rfl, rfl, rfl, (setIreg_frame s (s.pc + 3)).setPc _⟩

theorem pia_answers : Answers s s (s.pc + BitVec.ofNat 16 1) [.i, .s, .a, .x] [.n, .z] [] (execPia s) :=
  ⟨_, rfl, rfl, rfl, ((((pop16_setIreg_frame s (s.top16 + 1)).trans (setA_frame _ (s.read s.top16))).trans
    (setX_frame _ (s.read s.top16))).trans (setNZ_frame _ (s.read s.top16))).advance 1⟩

theorem takeException_mem (ret : Word) (image : Byte) (isBreak : Bool) (vector : Word) :
    (s.takeException ret image isBreak vector).mem = ((s.push16 ret).push8 image).mem := by
  cases isBreak <;> rfl

theorem brk_answers : Answers s ((s.push16 (s.pc + brkPushedPcOffset)).push8 (brkImage brkStackedB s.p))
    (s.breakEntry brkVector brkPushedPcOffset brkStackedB).pc [.s] [.b, .i] ([s.sp, s.sp - 1, s.sp - 2].map stackAddr) (execBrk s) := by
  obtain ⟨-, -, -, -, -, -, -, frame, -⟩ :=
    takeException_spec s (s.pc + brkPushedPcOffset) (brkImage brkStackedB s.p) true brkVector
  exact ⟨_, rfl, takeException_mem s _ _ true brkVector, rfl, frame⟩

theorem rti_answers : Answers s s s.returnFromException.pc [.s] [.n, .v, .d, .i, .z, .c] [] (execRti s) := by
  obtain ⟨-, -, -, mem, frame⟩ := returnFromException_spec s
  exact ⟨_, rfl, mem, rfl, frame⟩

end

/-! ## The bus writes -/

section

variable (s : State)

theorem busReadAbsIdx_quiet (nn : Word) (idx : Byte) : (applyWrites s (busReadAbsIdx nn idx s)).mem = s.mem := by
  unfold busReadAbsIdx
  split <;> rfl

theorem busReadIndX_quiet (n : Byte) : (applyWrites s (busReadIndX n s)).mem = s.mem := by
  unfold busReadIndX
  split <;> rfl

theorem busBranch_quiet (taken : Bool) (r : Byte) : (applyWrites s (busBranch taken r s)).mem = s.mem := by
  unfold busBranch
  dsimp only
  split
  case isTrue _ => rfl
  case isFalse _ => split <;> rfl

/-- The stack writes of a bus sequence are at S, S - 1, S - 2: the pushes, with S itself left to the end. -/
theorem push8_mem_eq_bus (v : Byte) : (s.write (stackAddr (s.sp - 0)) v).mem = (s.push8 v).mem := by
  simp

theorem push16_mem_eq_bus (v : Word) :
    ((s.write (stackAddr (s.sp - 0)) (hiByte v)).write (stackAddr (s.sp - 1)) (loByte v)).mem = (s.push16 v).mem := by
  simp

theorem push8_push8_push8_mem_eq_bus (u v w : Byte) :
    (((s.write (stackAddr (s.sp - 0)) u).write (stackAddr (s.sp - 1)) v).write (stackAddr (s.sp - 2)) w).mem =
      (((s.push8 u).push8 v).push8 w).mem := by
  have sub_zero : s.sp - 0 = s.sp := BitVec.sub_zero s.sp
  have sub_two : s.sp - 2 = s.sp - 1 - 1 := (sub_one_sub_one s.sp).symm
  rw [sub_zero, sub_two]
  rfl

end

/-! ## Every instruction -/

open Accounted in
/-- One case per mnemonic and bus form: the operation of its meaning, and what the tables have for it. -/
theorem exec_accounted (i : Instr) (s : State) : Completes i s (Accounted i s) := by
  cases i with
  | ldaImm | ldaZp | ldaZpX | ldaAbs | ldaInd => exact goesOn "LDA" rfl rfl (loadA_answers ..) (by decide) rfl rfl
  | ldaAbsX | ldaAbsY => exact goesOn "LDA" rfl rfl (loadA_answers ..) (by decide) (busReadAbsIdx_quiet ..) rfl
  | ldaIndX => exact goesOn "LDA" rfl rfl (loadA_answers ..) (by decide) (busReadIndX_quiet ..) rfl
  | ldxImm | ldxZp | ldxZpY | ldxAbs => exact goesOn "LDX" rfl rfl (loadX_answers ..) (by decide) rfl rfl
  | ldxAbsY => exact goesOn "LDX" rfl rfl (loadX_answers ..) (by decide) (busReadAbsIdx_quiet ..) rfl
  | ldyImm | ldyZp | ldyZpX | ldyAbs => exact goesOn "LDY" rfl rfl (loadY_answers ..) (by decide) rfl rfl
  | ldyAbsX => exact goesOn "LDY" rfl rfl (loadY_answers ..) (by decide) (busReadAbsIdx_quiet ..) rfl
  | staZp | staZpX | staAbs | staAbsX | staAbsY | staInd | staIndX =>
    exact stores "STA" rfl rfl (storeByte_answers ..) (by decide) rfl rfl (.of_store (by decide))
  | stxZp | stxZpY | stxAbs => exact stores "STX" rfl rfl (storeByte_answers ..) (by decide) rfl rfl (.of_store (by decide))
  | styZp | styZpX | styAbs => exact stores "STY" rfl rfl (storeByte_answers ..) (by decide) rfl rfl (.of_store (by decide))
  | sti => exact stores "STI" rfl rfl (storeByte_answers ..) (by decide) rfl rfl (.of_zeroPageStore (by decide))
  | tax => exact goesOn "TAX" rfl rfl (loadX_answers ..) (by decide) rfl rfl
  | tay => exact goesOn "TAY" rfl rfl (loadY_answers ..) (by decide) rfl rfl
  | txa => exact goesOn "TXA" rfl rfl (loadA_answers ..) (by decide) rfl rfl
  | tya => exact goesOn "TYA" rfl rfl (loadA_answers ..) (by decide) rfl rfl
  | tsx => exact goesOn "TSX" rfl rfl (loadX_answers ..) (by decide) rfl rfl
  | txs => exact goesOn "TXS" rfl rfl (txs_answers s) (by decide) rfl rfl
  | exc n => exact stores "EXC" rfl rfl (exc_answers s n) (by decide) rfl rfl (.of_zeroPageStore (by decide))
  | adcImm | adcZp | adcZpX | adcAbs | adcInd => exact goesOn "ADC" rfl rfl (addToA_answers ..) (by decide) rfl rfl
  | adcAbsX | adcAbsY => exact goesOn "ADC" rfl rfl (addToA_answers ..) (by decide) (busReadAbsIdx_quiet ..) rfl
  | adcIndX => exact goesOn "ADC" rfl rfl (addToA_answers ..) (by decide) (busReadIndX_quiet ..) rfl
  | addImm | addZp | addZpX => exact goesOn "ADD" rfl rfl (addToA_answers ..) (by decide) rfl rfl
  | sbcImm | sbcZp | sbcZpX | sbcAbs | sbcInd => exact goesOn "SBC" rfl rfl (subFromA_answers ..) (by decide) rfl rfl
  | sbcAbsX | sbcAbsY => exact goesOn "SBC" rfl rfl (subFromA_answers ..) (by decide) (busReadAbsIdx_quiet ..) rfl
  | sbcIndX => exact goesOn "SBC" rfl rfl (subFromA_answers ..) (by decide) (busReadIndX_quiet ..) rfl
  | andImm | andZp | andZpX | andAbs | andInd => exact goesOn "AND" rfl rfl (resultToA_answers ..) (by decide) rfl rfl
  | andAbsX | andAbsY => exact goesOn "AND" rfl rfl (resultToA_answers ..) (by decide) (busReadAbsIdx_quiet ..) rfl
  | andIndX => exact goesOn "AND" rfl rfl (resultToA_answers ..) (by decide) (busReadIndX_quiet ..) rfl
  | oraImm | oraZp | oraZpX | oraAbs | oraInd => exact goesOn "ORA" rfl rfl (resultToA_answers ..) (by decide) rfl rfl
  | oraAbsX | oraAbsY => exact goesOn "ORA" rfl rfl (resultToA_answers ..) (by decide) (busReadAbsIdx_quiet ..) rfl
  | oraIndX => exact goesOn "ORA" rfl rfl (resultToA_answers ..) (by decide) (busReadIndX_quiet ..) rfl
  | eorImm | eorZp | eorZpX | eorAbs | eorInd => exact goesOn "EOR" rfl rfl (resultToA_answers ..) (by decide) rfl rfl
  | eorAbsX | eorAbsY => exact goesOn "EOR" rfl rfl (resultToA_answers ..) (by decide) (busReadAbsIdx_quiet ..) rfl
  | eorIndX => exact goesOn "EOR" rfl rfl (resultToA_answers ..) (by decide) (busReadIndX_quiet ..) rfl
  | cmpImm | cmpZp | cmpZpX | cmpAbs | cmpInd => exact goesOn "CMP" rfl rfl (compareWith_answers ..) (by decide) rfl rfl
  | cmpAbsX | cmpAbsY => exact goesOn "CMP" rfl rfl (compareWith_answers ..) (by decide) (busReadAbsIdx_quiet ..) rfl
  | cmpIndX => exact goesOn "CMP" rfl rfl (compareWith_answers ..) (by decide) (busReadIndX_quiet ..) rfl
  | cpxImm | cpxZp | cpxAbs => exact goesOn "CPX" rfl rfl (compareWith_answers ..) (by decide) rfl rfl
  | cpyImm | cpyZp | cpyAbs => exact goesOn "CPY" rfl rfl (compareWith_answers ..) (by decide) rfl rfl
  | bitZp | bitAbs => exact goesOn "BIT" rfl rfl (bitTest_answers ..) (by decide) rfl rfl
  | incZp | incZpX | incAbs | incAbsX =>
    exact stores "INC" rfl rfl (updateMem_answers ..) (by decide) rfl rfl (.of_store (by decide))
  | decZp | decZpX | decAbs | decAbsX =>
    exact stores "DEC" rfl rfl (updateMem_answers ..) (by decide) rfl rfl (.of_store (by decide))
  | inx => exact goesOn "INX" rfl rfl (updateX_answers ..) (by decide) rfl rfl
  | iny => exact goesOn "INY" rfl rfl (updateY_answers ..) (by decide) rfl rfl
  | dex => exact goesOn "DEX" rfl rfl (updateX_answers ..) (by decide) rfl rfl
  | dey => exact goesOn "DEY" rfl rfl (updateY_answers ..) (by decide) rfl rfl
  | neg => exact goesOn "NEG" rfl rfl (resultToA_answers ..) (by decide) rfl rfl
  | lab => exact goesOn "LAB" rfl rfl (resultToA_answers ..) (by decide) rfl rfl
  | aslZp | aslZpX | aslAbs | aslAbsX =>
    exact stores "ASL" rfl rfl (shiftMem_answers ..) (by decide) rfl rfl (.of_store (by decide))
  | aslAcc => exact goesOn "ASL" rfl rfl (shiftAcc_answers ..) (by decide) rfl rfl
  | lsrZp | lsrZpX | lsrAbs | lsrAbsX =>
    exact stores "LSR" rfl rfl (shiftMem_answers ..) (by decide) rfl rfl (.of_store (by decide))
  | lsrAcc => exact goesOn "LSR" rfl rfl (shiftAcc_answers ..) (by decide) rfl rfl
  | rolZp | rolZpX | rolAbs | rolAbsX =>
    exact stores "ROL" rfl rfl (shiftMem_answers ..) (by decide) rfl rfl (.of_store (by decide))
  | rolAcc => exact goesOn "ROL" rfl rfl (shiftAcc_answers ..) (by decide) rfl rfl
  | rorZp | rorZpX | rorAbs | rorAbsX =>
    exact stores "ROR" rfl rfl (shiftMem_answers ..) (by decide) rfl rfl (.of_store (by decide))
  | rorAcc => exact goesOn "ROR" rfl rfl (shiftAcc_answers ..) (by decide) rfl rfl
  | asr => exact goesOn "ASR" rfl rfl (shiftAcc_answers s fun b _ => asrByte b) (by decide) rfl rfl
  | mpy => exact goesOn "MPY" rfl rfl (mpy_answers s) (by decide) rfl rfl
  | mpa => exact goesOn "MPA" rfl rfl (mpa_answers s) (by decide) rfl rfl
  | rnd => exact goesOn "RND" rfl rfl (rnd_answers s) (by decide) rfl rfl
  | clw => exact goesOn "CLW" rfl rfl (clw_answers s) (by decide) rfl rfl
  | taw => exact goesOn "TAW" rfl rfl (taw_answers s) (by decide) rfl rfl
  | twa => exact goesOn "TWA" rfl rfl (loadA_answers ..) (by decide) rfl rfl
  | phw => exact stores "PHW" rfl rfl (push16_answers ..) (by decide) (push16_mem_eq_bus ..) rfl (.of_push (by decide))
  | plw => exact goesOn "PLW" rfl rfl (plw_answers s) (by decide) rfl rfl
  | bcc => exact transfers "BCC" rfl rfl (setPc_answers ..) (by decide) (busBranch_quiet ..) (by decide)
  | bcs => exact transfers "BCS" rfl rfl (setPc_answers ..) (by decide) (busBranch_quiet ..) (by decide)
  | beq => exact transfers "BEQ" rfl rfl (setPc_answers ..) (by decide) (busBranch_quiet ..) (by decide)
  | bne => exact transfers "BNE" rfl rfl (setPc_answers ..) (by decide) (busBranch_quiet ..) (by decide)
  | bmi => exact transfers "BMI" rfl rfl (setPc_answers ..) (by decide) (busBranch_quiet ..) (by decide)
  | bpl => exact transfers "BPL" rfl rfl (setPc_answers ..) (by decide) (busBranch_quiet ..) (by decide)
  | bvc => exact transfers "BVC" rfl rfl (setPc_answers ..) (by decide) (busBranch_quiet ..) (by decide)
  | bvs => exact transfers "BVS" rfl rfl (setPc_answers ..) (by decide) (busBranch_quiet ..) (by decide)
  | bra => exact transfers "BRA" rfl rfl (setPc_answers ..) (by decide) (busBranch_quiet s true _) (by decide)
  | jmpAbs | jmpInd | jmpIndX => exact transfers "JMP" rfl rfl (setPc_answers ..) (by decide) rfl (by decide)
  | jsr => exact calls "JSR" rfl rfl (call_answers ..) (by decide) (push16_mem_eq_bus ..) (by decide) (.of_push (by decide))
  | jsb0 | jsb1 | jsb2 | jsb3 | jsb4 | jsb5 | jsb6 | jsb7 =>
    exact calls "JSB" rfl rfl (call_answers ..) (by decide) (push16_mem_eq_bus ..) (by decide) (.of_push (by decide))
  | rts => exact transfers "RTS" rfl rfl (rts_answers s) (by decide) rfl (by decide)
  | rmb0 | rmb1 | rmb2 | rmb3 | rmb4 | rmb5 | rmb6 | rmb7 =>
    exact stores "RMB" rfl rfl (storeByte_answers ..) (by decide) rfl rfl (.of_zeroPageStore (by decide))
  | smb0 | smb1 | smb2 | smb3 | smb4 | smb5 | smb6 | smb7 =>
    exact stores "SMB" rfl rfl (storeByte_answers ..) (by decide) rfl rfl (.of_zeroPageStore (by decide))
  | rba => exact stores "RBA" rfl rfl (write_clobberA_answers ..) (by decide) rfl rfl (.of_store (by decide))
  | sba => exact stores "SBA" rfl rfl (write_clobberA_answers ..) (by decide) rfl rfl (.of_store (by decide))
  | bbr0 | bbr1 | bbr2 | bbr3 | bbr4 | bbr5 | bbr6 | bbr7 =>
    exact transfers "BBR" rfl rfl (setPc_answers ..) (by decide) rfl (by decide)
  | bbs0 | bbs1 | bbs2 | bbs3 | bbs4 | bbs5 | bbs6 | bbs7 =>
    exact transfers "BBS" rfl rfl (setPc_answers ..) (by decide) rfl (by decide)
  | bar => exact transfers "BAR" rfl rfl (setPc_answers ..) (by decide) rfl (by decide)
  | bas => exact transfers "BAS" rfl rfl (setPc_answers ..) (by decide) rfl (by decide)
  | pha => exact stores "PHA" rfl rfl (push8_answers ..) (by decide) (push8_mem_eq_bus ..) rfl (.of_push (by decide))
  | php => exact stores "PHP" rfl rfl (push8_answers ..) (by decide) (push8_mem_eq_bus ..) rfl (.of_push (by decide))
  | phx => exact stores "PHX" rfl rfl (push8_answers ..) (by decide) (push8_mem_eq_bus ..) rfl (.of_push (by decide))
  | phy => exact stores "PHY" rfl rfl (push8_answers ..) (by decide) (push8_mem_eq_bus ..) rfl (.of_push (by decide))
  | psh => exact stores "PSH" rfl rfl (psh_answers s) (by decide) (push8_push8_push8_mem_eq_bus ..) rfl (.of_push (by decide))
  | pla => exact goesOn "PLA" rfl (exec_pla s) (loadA_answers ..).of_pop8 (by decide) rfl rfl
  | plp => exact goesOn "PLP" rfl rfl (plp_answers s) (by decide) rfl rfl
  | plx => exact goesOn "PLX" rfl (exec_plx s) (loadX_answers ..).of_pop8 (by decide) rfl rfl
  | ply => exact goesOn "PLY" rfl (exec_ply s) (loadY_answers ..).of_pop8 (by decide) rfl rfl
  | pul => exact goesOn "PUL" rfl rfl (pul_answers s) (by decide) rfl rfl
  | nxt => exact transfers "NXT" rfl rfl (nxt_answers s) (by decide) rfl (by decide)
  | lii => exact goesOn "LII" rfl rfl (lii_answers s) (by decide) rfl rfl
  | lai => exact goesOn "LAI" rfl rfl (lai_answers s) (by decide) rfl rfl
  | lan => exact goesOn "LAN" rfl rfl (lan_answers s) (by decide) rfl rfl
  | ini => exact goesOn "INI" rfl rfl (ini_answers s) (by decide) rfl rfl
  | phi => exact stores "PHI" rfl rfl (push16_answers ..) (by decide) (push16_mem_eq_bus ..) rfl (.of_push (by decide))
  | pli => exact goesOn "PLI" rfl rfl (pli_answers s) (by decide) rfl rfl
  | jpi nn => exact transfers "JPI" rfl rfl (jpi_answers s nn) (by decide) rfl (by decide)
  | tip => exact transfers "TIP" rfl rfl (setPc_answers ..) (by decide) rfl (by decide)
  | pia => exact goesOn "PIA" rfl rfl (pia_answers s) (by decide) rfl rfl
  | clc => exact goesOn "CLC" rfl rfl (setFlag_answers ..) (by decide) rfl rfl
  | sec => exact goesOn "SEC" rfl rfl (setFlag_answers ..) (by decide) rfl rfl
  | cld => exact goesOn "CLD" rfl rfl (setFlag_answers ..) (by decide) rfl rfl
  | sed => exact goesOn "SED" rfl rfl (setFlag_answers ..) (by decide) rfl rfl
  | cli => exact goesOn "CLI" rfl rfl (setFlag_answers ..) (by decide) rfl rfl
  | sei => exact goesOn "SEI" rfl rfl (setFlag_answers ..) (by decide) rfl rfl
  | clv => exact goesOn "CLV" rfl rfl (setFlag_answers ..) (by decide) rfl rfl
  | nop => exact goesOn "NOP" rfl rfl (setPc_answers ..) (by decide) rfl rfl
  | brk =>
    exact calls "BRK" rfl rfl (brk_answers s) (by decide) (push8_push8_push8_mem_eq_bus ..) (by decide) (.of_push (by decide))
  | rti => exact transfers "RTI" rfl rfl (rti_answers s) (by decide) rfl (by decide)

end Sys2Proof.Machine

/-! SUPPORT. What follows for every instruction and every step: registers, flags, memory, ROM, the canonical form, bit 5 and B. -/

namespace Sys2Proof.Machine

/-! ## Every instruction -/

theorem accounted_of_exec {i : Instr} {s t : State} (h : exec i s = .next t) : Accounted i s t := by
  obtain ⟨u, hu, accounted⟩ := exec_accounted i s
  obtain rfl : t = u := by simpa [hu] using h.symm
  exact accounted

/-- Settles O17: the register clause of `exec_accounted`. -/
theorem registersAreWrittenOnlyByTheirWriters : Obligations.RegistersAreWrittenOnlyByTheirWriters :=
  fun _ _ _ r h => (accounted_of_exec h).regs r

/-- Settles O18: the flag clause of `exec_accounted`. -/
theorem flagsAreWrittenOnlyByTheirWriters : Obligations.FlagsAreWrittenOnlyByTheirWriters :=
  fun _ _ _ f h => (accounted_of_exec h).flags f

/-- Settles O57: the memory clause of `exec_accounted`. -/
theorem busWritesAreTheMemoryEffect : Obligations.BusWritesAreTheMemoryEffect :=
  fun _ _ _ h => (accounted_of_exec h).mem

/-- Settles O20: the platform and PC clauses of `exec_accounted`. -/
theorem everyInstructionCompletes : Obligations.EveryInstructionCompletes := by
  intro i s
  obtain ⟨t, meaning, accounted⟩ := exec_accounted i s
  exact ⟨t, meaning, accounted.platform, accounted.pc⟩

/-- Where memory is written only within one page, the bytes of the other pages stay. -/
theorem read_eq_of_place {s t : State} {name : String} {page : Byte}
    (place : t.mem = s.mem ∨ ∃ addrs, WritesAt name addrs ∧ KeepsMemory addrs s t)
    (within : ∀ addrs, WritesAt name addrs → ∀ a ∈ addrs, hiByte a = page) (addr : Word) (outside : hiByte addr ≠ page) :
    t.read addr = s.read addr := by
  rcases place with same | ⟨addrs, writes, kept⟩
  · rw [State.read, State.read, same]
  · exact kept addr fun listed => outside (within addrs writes addr listed)

/-- Settles O19: an instruction that is not in the lists writes nothing, and the page of the other writes is that of their list. -/
theorem memoryIsWrittenOnlyByStoresAndPushes : Obligations.MemoryIsWrittenOnlyByStoresAndPushes := by
  intro i s t h
  have place := (accounted_of_exec h).place
  refine ⟨fun notStore notPush => ?_, fun push => read_eq_of_place place fun _ writes => writes.stack push,
    fun zeroPage => read_eq_of_place place fun _ writes => writes.zeroPage zeroPage⟩
  rcases place with same | ⟨_, writes, -⟩
  · exact same
  · exact absurd writes.writer (not_or.2 ⟨notStore, notPush⟩)

/-! ## Every step -/

/-- An accepted event is the start sequence, or an interrupt entry that leaves an NMI request pending or consumes it. -/
theorem acceptedEvent_eq_some {s t : State} (event : s.acceptedEvent = some t) :
    (s.resetRequest = true ∧ t = s.startSequence) ∨ ∃ pending vector, t = (s.setNmiRequest pending).interruptEntry vector := by
  rcases acceptedEvent_cases s with ⟨requested, reset⟩ | ⟨-, -, nmi⟩ | ⟨-, -, -, src, -, irq⟩ | ⟨-, -, none⟩
  · exact .inl ⟨requested, by simpa [reset] using event.symm⟩
  · exact .inr ⟨false, nmiVector, by simpa [nmi] using event.symm⟩
  · exact .inr ⟨s.nmiRequest, Config.irqVector src, Option.some.inj (event.symm.trans irq)⟩
  · simp [none] at event

theorem interruptEntry_frame (s : State) (vector : Word) :
    Frame [.s] [.i] [stackAddr s.sp, stackAddr (s.sp - 1), stackAddr (s.sp - 2)] s (s.interruptEntry vector) := by
  obtain ⟨-, -, -, -, -, -, -, -, frame⟩ := takeException_spec s s.pc s.p false vector
  exact frame rfl

/-- The three pushes of an interrupt entry, as bus writes; an NMI request is no part of them. -/
theorem interruptEntry_mem (s : State) (pending : Bool) (vector : Word) :
    ((s.setNmiRequest pending).interruptEntry vector).mem =
      (applyWrites s [s.busPush 0 (hiByte s.pc), s.busPush 1 (loByte s.pc), s.busPush 2 s.p]).mem :=
  calc ((s.setNmiRequest pending).interruptEntry vector).mem
    _ = (((s.setNmiRequest pending).push16 s.pc).push8 s.p).mem := takeException_mem _ _ _ _ _
    _ = (((s.push8 (hiByte s.pc)).push8 (loByte s.pc)).push8 s.p).mem := rfl
    _ = _ := (push8_push8_push8_mem_eq_bus s (hiByte s.pc) (loByte s.pc) s.p).symm

/-- Whatever a step does, memory is what some bus writes make of it, and the map stays. -/
theorem step_mem {s t : State} (h : step s = .next t) : (∃ l, t.mem = (applyWrites s l).mem) ∧ t.rom = s.rom := by
  rcases step_next h with event | ⟨-, i, -, executed⟩
  · rcases acceptedEvent_eq_some event with ⟨-, rfl⟩ | ⟨pending, vector, rfl⟩
    · exact ⟨⟨[], rfl⟩, rfl⟩
    · obtain ⟨-, -, -, -, -, -, rom⟩ := interruptEntry_frame (s.setNmiRequest pending) vector
      exact ⟨⟨_, interruptEntry_mem s pending vector⟩, rom⟩
  · have accounted := accounted_of_exec executed
    obtain ⟨-, -, -, rom⟩ := accounted.platform
    exact ⟨⟨_, accounted.mem⟩, rom⟩

/-- Settles O14: the writes of a bus sequence keep the canonical form. -/
theorem memoryStaysCanonical : Obligations.MemoryStaysCanonical := by
  intro s t canonical h
  obtain ⟨⟨l, mem⟩, -⟩ := step_mem h
  rw [mem]
  exact applyWrites_wf canonical l

theorem read_rom_of_mem {s t : State} {l : List BusAccess} (mem : t.mem = (applyWrites s l).mem) {addr : Word}
    (rom : s.isRom addr = true) : t.read addr = s.read addr := by
  rw [State.read, mem]
  exact (applyWrites_rom s l).2 addr rom

/-- Settles O60: instructions and steps change memory by bus writes alone, and a write leaves ROM as it was. -/
theorem writesReachRamAndNotRom : Obligations.WritesReachRamAndNotRom := by
  refine ⟨State.read_write, fun i s t h => ?_, fun s t h => ?_⟩
  · obtain ⟨-, -, -, rom⟩ := (accounted_of_exec h).platform
    exact ⟨rom, fun addr => read_rom_of_mem (accounted_of_exec h).mem⟩
  · obtain ⟨⟨l, mem⟩, rom⟩ := step_mem h
    exact ⟨rom, fun addr => read_rom_of_mem mem⟩

/-! ## Bit 5 and B -/

theorem eq_brk_of_mnemonic {i : Instr} (h : i.mnemonic = "BRK") : i = .brk := by
  cases i with
  | brk => rfl
  | _ => simp [Instr.mnemonic] at h

theorem breakEntry_flag_b (s : State) (vector offset : Word) (stackedB : Bool) :
    (s.breakEntry vector offset stackedB).flag .b = true := by
  obtain ⟨-, -, -, -, -, b, -⟩ := takeException_spec s (s.pc + offset) (brkImage stackedB s.p) true vector
  exact b

/-- The event of a boundary without a reset request leaves every flag but I. -/
theorem acceptedEvent_flag {s t : State} (noReset : s.resetRequest = false) (event : s.acceptedEvent = some t) {f : Flag}
    (notI : f ≠ .i) : t.flag f = s.flag f := by
  rcases acceptedEvent_eq_some event with ⟨reset, -⟩ | ⟨pending, vector, rfl⟩
  · simp [noReset] at reset
  · obtain ⟨-, flags, -⟩ := interruptEntry_frame (s.setNmiRequest pending) vector
    exact flags f (by simpa using notI)

/-- An instruction leaves B as it is, or it is BRK, which sets it. -/
theorem exec_flag_b {i : Instr} {s t : State} (h : exec i s = .next t) : t.flag .b = s.flag .b ∨ (i = .brk ∧ t.flag .b = true) := by
  by_cases brk : i = .brk
  · subst brk
    obtain rfl : s.breakEntry brkVector brkPushedPcOffset brkStackedB = t := by simpa [exec, execBrk] using h
    exact .inr ⟨rfl, breakEntry_flag_b s _ _ _⟩
  · refine .inl ((accounted_of_exec h).flags .b fun writer => brk (eq_brk_of_mnemonic ?_))
    simpa [flagWriters] using writer

/-- Settles O16: no event reaches bit 5 or B, bit 5 has no writer, and B's one writer is BRK, whose operation code is 00. -/
theorem breakFlagAndBitFiveLife : Obligations.BreakFlagAndBitFiveLife := by
  intro s t noReset h
  rcases step_next h with event | ⟨quiet, i, fetched, executed⟩
  · have b : t.flag .b = s.flag .b := acceptedEvent_flag noReset event (by decide)
    refine ⟨acceptedEvent_flag noReset event (by decide), fun set => b.trans set, fun clear set => ?_⟩
    simp [b, clear] at set
  · refine ⟨(accounted_of_exec executed).flags .unused (by simp [flagWriters]), fun set => ?_, fun clear set => ⟨quiet, ?_⟩⟩
    · rcases exec_flag_b executed with b | ⟨-, b⟩
      · exact b.trans set
      · exact b
    · rcases exec_flag_b executed with b | ⟨rfl, -⟩
      · simp [b, clear] at set
      · simpa [encode] using (encode_head_of_fetchInstr fetched).symm

/-- Settles O15: the empty list is canonical. -/
theorem resetMemoryIsCanonical : Obligations.ResetMemoryIsCanonical := rfl

end Sys2Proof.Machine

/-! SUPPORT. Boundaries and runs: the order of events, exception entry and return, reset, the code at PC and the end of a run
(60_exceptions.md, 70_reset_and_hazards.md). -/

namespace Sys2Proof.Machine

/-! ## The boundary (R433, R447) -/

/-- Settles O6: a code that is not Not Used is fetched as an instruction, and every instruction completes. -/
theorem onlyNotUsedCodesStopTheMachine : Obligations.OnlyNotUsedCodesStopTheMachine := by
  refine ⟨fun s quiet notUsed => step_of_not_used quiet notUsed, fun s => ?_⟩
  cases event : s.acceptedEvent with
  | some t => exact .inr ⟨t, by simp only [step, event]⟩
  | none =>
    by_cases notUsed : s.read s.pc ∈ notUsedCodes
    · exact .inl ⟨rfl, notUsed⟩
    · obtain ⟨i, fetched⟩ := exists_fetchInstr notUsed
      obtain ⟨t, meaning, -⟩ := exec_accounted i s
      exact .inr ⟨t, (step_of_fetchInstr event fetched).trans meaning⟩

theorem step_of_event {s t : State} (event : s.acceptedEvent = some t) : step s = .next t := by
  simp only [step, event]

theorem acceptedEvent_of_reset {s : State} (reset : s.resetRequest = true) : s.acceptedEvent = some s.startSequence := by
  simp [State.acceptedEvent, reset]

theorem highestPriority_eq_some {l : List Nat} {src : Nat} (pending : src ∈ l) (highest : ∀ other ∈ l, src ≤ other) :
    highestPriority l = some src := by
  obtain ⟨m, hm, best, least⟩ := highestPriority_spec (List.ne_nil_of_mem pending)
  rw [best, Nat.le_antisymm (least src pending) (highest m hm)]

/-- Settles O7: the tests of `acceptedEvent` in their order; the highest priority is the least number. -/
theorem boundaryOrder : Obligations.BoundaryOrder := by
  intro s
  refine ⟨fun reset => step_of_event (acceptedEvent_of_reset reset), fun noReset nmi => step_of_event ?nmi,
    fun noReset noNmi unmasked src pending highest => step_of_event ?irq, fun noReset noNmi masked => ?quiet⟩
  case nmi => simp [State.acceptedEvent, noReset, nmi, nmiVector]
  case irq => simp [State.acceptedEvent, noReset, noNmi, unmasked, highestPriority_eq_some pending highest]
  case quiet =>
    rcases masked with masked | none
    · simp [State.acceptedEvent, noReset, noNmi, masked]
    · simp [State.acceptedEvent, noReset, noNmi, none, highestPriority]

/-! ## Exception entry (R418, R438) -/

/-- Settles O8: an interrupt entry is the shared exception entry with PC, P and no break. -/
theorem interruptEntryEffect : Obligations.InterruptEntryEffect := by
  intro s vec t
  obtain ⟨high, low, image, sp, i, -, pc, -, -⟩ := takeException_spec s s.pc s.p false vec
  exact ⟨high, low, image, sp, i, pc, interruptEntry_frame s vec, rfl⟩

/-- The image BRK pushes is P, with B set if the parameter says so. -/
theorem flagOf_brkImage (stackedB : Bool) (p : Byte) (f : Flag) :
    flagOf (brkImage stackedB p) f = ((stackedB && decide (f = .b)) || flagOf p f) := by
  cases stackedB with
  | false => simp [brkImage]
  | true => by_cases b : f = .b <;> simp [brkImage, b]

/-- Settles O9: BRK is the shared exception entry with B; the defaults are those of 92 D2 to D4. -/
theorem breakEntryEffect : Obligations.BreakEntryEffect := by
  intro s
  refine ⟨fun vec offset stackedB => ?_, ⟨rfl, rfl, rfl⟩, rfl⟩
  obtain ⟨high, low, image, sp, i, b, pc, frame, -⟩ := takeException_spec s (s.pc + offset) (brkImage stackedB s.p) true vec
  exact ⟨high, low, ⟨_, flagOf_brkImage stackedB s.p, image⟩, sp, b, i, pc, frame⟩

/-! ## The return from an exception (R419) -/

/-- A frame that may change some registers changes none, when each is what it was. -/
theorem Frame.of_regs {r : List Reg} {f : List Flag} {a : List Word} {s t : State} (h : Frame r f a s t)
    (same : ∀ j ∈ r, t.reg j = s.reg j) : Frame [] f a s t := by
  obtain ⟨regs, rest⟩ := h
  refine ⟨fun j _ => ?_, rest⟩
  by_cases j ∈ r
  case pos listed => exact same j listed
  case neg other => exact regs j other

/-- A frame that may change some flags changes none, when each is what it was. -/
theorem Frame.of_flags {r : List Reg} {f : List Flag} {a : List Word} {s t : State} (h : Frame r f a s t)
    (same : ∀ j ∈ f, t.flag j = s.flag j) : Frame r [] a s t := by
  obtain ⟨regs, flags, rest⟩ := h
  refine ⟨regs, fun j _ => ?_, rest⟩
  by_cases j ∈ f
  case pos listed => exact same j listed
  case neg other => exact flags j other

/-- The three stack bytes are RAM, and a state `t` with S three lower holds the bytes of an exception entry: RTI gives back PC, S and the
flags of the pushed image, B and bit 5 being those of `t`. -/
theorem returnFromException_of_stored {s t : State} {ret : Word} {image : Byte}
    (ram : ∀ addr ∈ [stackAddr s.sp, stackAddr (s.sp - 1), stackAddr (s.sp - 2)], s.isRom addr = false)
    (high : Stored (stackAddr s.sp) (hiByte ret) s t) (low : Stored (stackAddr (s.sp - 1)) (loByte ret) s t)
    (flags : Stored (stackAddr (s.sp - 2)) image s t) (sp : t.sp = s.sp - 3) :
    t.returnFromException.pc = ret ∧ t.returnFromException.p = restoredP t.p image ∧ t.returnFromException.sp = s.sp := by
  obtain ⟨p, pc, sp', -, -⟩ := returnFromException_spec t
  have first : t.sp + 1 = s.sp - 2 := by rw [sp]; bv_omega
  have second : t.sp + 2 = s.sp - 1 := by rw [sp]; bv_omega
  have third : t.sp + 3 = s.sp := by rw [sp]; bv_omega
  rw [first, flags (ram _ (by simp))] at p
  rw [third, high (ram _ (by simp)), second, low (ram _ (by simp)), joinBytes_hiByte_loByte] at pc
  exact ⟨pc, p, sp'.trans third⟩

/-- RTI right after an exception entry that pushed P gives back everything but B, which stays as the entry left it. -/
theorem returnFromException_takeException (s : State) (ret : Word) (isBreak : Bool) (vector : Word)
    (ram : ∀ addr ∈ [stackAddr s.sp, stackAddr (s.sp - 1), stackAddr (s.sp - 2)], s.isRom addr = false) :
    let u := (s.takeException ret s.p isBreak vector).returnFromException
    u.pc = ret ∧ u.flag .b = (isBreak || s.flag .b) ∧
      Frame [] [.b] [stackAddr s.sp, stackAddr (s.sp - 1), stackAddr (s.sp - 2)] s u := by
  intro u
  obtain ⟨high, low, image, lowered, -, b, -, entry, -⟩ := takeException_spec s ret s.p isBreak vector
  obtain ⟨pc, p, sp⟩ := returnFromException_of_stored ram high low image lowered
  have ⟨_, entryFlags, _⟩ := entry
  obtain ⟨-, -, -, -, back⟩ := returnFromException_spec (s.takeException ret s.p isBreak vector)
  have flag (f : Flag) : u.flag f = if f = .b ∨ f = .unused
      then (s.takeException ret s.p isBreak vector).flag f else s.flag f := by
    rw [State.flag, p]
    exact flagOf_restoredP _ _ f
  have flags : KeepsFlags [.b] s u := by
    intro f notB
    rw [flag]
    split
    case isTrue kept => exact entryFlags f (by rcases kept with rfl | rfl <;> simp at notB ⊢)
    case isFalse _ => rfl
  obtain ⟨regs, -, mem, platform⟩ := (entry.trans back).of_regs (by simp [State.reg, sp])
  exact ⟨pc, (flag .b).trans b, regs, flags, mem, platform⟩

theorem Frame.p_eq {r : List Reg} {a : List Word} {s t : State} (h : Frame r [] a s t) : t.p = s.p :=
  ext_flagOf fun f => h.2.1 f (List.not_mem_nil)

/-- Settles O11: both entries push P; the interrupt entry leaves B, so that the whole of P comes back, and BRK sets it. -/
theorem returnUndoesExceptionEntry : Obligations.ReturnUndoesExceptionEntry := by
  intro s vec ram
  constructor
  · obtain ⟨pc, b, frame⟩ := returnFromException_takeException s s.pc false vec ram
    have restored := frame.of_flags (by simpa using b)
    exact ⟨_, rfl, pc, restored.p_eq, restored⟩
  · obtain ⟨pc, b, frame⟩ := returnFromException_takeException s (s.pc + brkPushedPcOffset) true brkVector ram
    exact ⟨_, rfl, _, rfl, pc, b, frame⟩

/-! ## Reset (R470, R471) -/

/-- Settles O12: each field is that of the definition. -/
theorem resetState : Obligations.ResetState :=
  ⟨by decide, by decide, by decide, rfl, rfl, rfl, rfl, rfl, fun _ => rfl⟩

/-- Settles O13: a requested reset is the event, and the start sequence only reads. -/
theorem startSequenceEffect : Obligations.StartSequenceEffect := by
  intro s reset
  obtain ⟨pc, d, i, mem, -, served, nmi, irq, -⟩ := startSequence_spec s
  exact ⟨_, step_of_event (acceptedEvent_of_reset reset), pc, d, i, mem, served, nmi, irq, rfl, rfl⟩

/-! ## The instruction at PC -/

theorem exec_staAbs (nn : Word) (s : State) : exec (.staAbs nn) s = .next ((s.write nn s.a).advance 3) := rfl

/-- Settles O58: the byte written is at the new PC, and decodes to the instruction it encodes. -/
theorem storeIsSeenByTheNextFetch : Obligations.StoreIsSeenByTheNextFetch := by
  intro s t i stored quiet code ram
  obtain rfl : (s.write (s.pc + 3) s.a).advance 3 = t := by simpa [exec_staAbs] using stored
  have seen : (s.write (s.pc + 3) s.a).read (s.pc + 3) = s.a := (write_spec s (s.pc + 3) s.a).1 ram
  refine step_of_fetchInstr quiet (fetchInstr_of_codeAtPc fun k hk => ?_)
  obtain rfl : k = 0 := by simpa [code] using hk
  simpa [code] using seen

/-! ## The end of a run (R484) -/

/-- The run ends where the instruction at PC, not BRK, comes back to its own address, with no event before or after it. -/
theorem runEnded_iff {s : State} : runEnded s = true ↔ s.acceptedEvent = none ∧ ∃ i t, s.fetchInstr = .ok i ∧ i ≠ .brk ∧
    exec i s = .next t ∧ t.pc = s.pc ∧ t.acceptedEvent = none := by
  unfold runEnded
  cases s.fetchInstr with
  | error f => simp
  | ok i =>
    obtain ⟨t, meaning, -⟩ := exec_accounted i s
    simp [meaning]

theorem setPc_pc_self (s : State) : s.setPc s.pc = s := rfl

theorem exec_bra_self (s : State) : exec (.bra 0xFE) s = .next s := by
  have back : s.pc + 2 + (0xFE : Byte).signExtend 16 = s.pc := by
    have offset : (0xFE : Byte).signExtend 16 = (-2 : Word) := by decide
    rw [offset]
    bv_omega
  have meaning : exec (.bra 0xFE) s = .next (s.setPc (s.pc + 2 + (0xFE : Byte).signExtend 16)) := rfl
  rw [meaning, back, setPc_pc_self]

theorem exec_jmp_self (s : State) : exec (.jmpAbs s.pc) s = .next s := rfl

/-- An instruction other than BRK at PC that leaves the state as it is ends the run. -/
theorem runEnded_of_codeAtPc {s : State} {i : Instr} (quiet : s.acceptedEvent = none) (placed : CodeAtPc i s) (other : i ≠ .brk)
    (same : exec i s = .next s) : step s = .next s ∧ runEnded s = true := by
  have fetched := fetchInstr_of_codeAtPc placed
  exact ⟨(step_of_fetchInstr quiet fetched).trans same, runEnded_iff.2 ⟨quiet, i, s, fetched, other, same, rfl, quiet⟩⟩

theorem fetchInstr_of_read_zero {s : State} (zero : s.read s.pc = 0x00) : s.fetchInstr = .ok .brk := by
  refine fetchInstr_of_codeAtPc fun k hk => ?_
  obtain rfl : k = 0 := by simpa [encode] using hk
  simpa [encode] using zero

/-- Settles O59: both self-branches leave the state as it is; a run ends only on an instruction that was fetched and is not BRK. -/
theorem selfBranchIsTheEndOfARun : Obligations.SelfBranchIsTheEndOfARun := by
  constructor
  · rintro s quiet (bra | jmp)
    · exact runEnded_of_codeAtPc quiet bra (by simp) (exec_bra_self s)
    · exact runEnded_of_codeAtPc quiet jmp (by simp) (exec_jmp_self s)
  · intro s ended
    obtain ⟨quiet, i, t, fetched, notBrk, executed, back, quietAfter⟩ := runEnded_iff.1 ended
    refine ⟨fun zero => notBrk ?_, fun notUsed => ?_, quiet, t, (step_of_fetchInstr quiet fetched).trans executed, back, quietAfter⟩
    · simpa [fetched] using fetchInstr_of_read_zero zero
    · simp [fetchInstr_of_not_used notUsed] at fetched

end Sys2Proof.Machine

/-! SUPPORT. Decimal subtraction, the forms of ADC, ADD and SBC (42_arithmetic_logic.md), multiply-accumulate and round
(44_multiply_w.md). -/

namespace Sys2Proof.Machine

/-! ## Decimal subtraction (R223) -/

theorem bcdValue_lt {b : Byte} (valid : validBcd b = true) : bcdValue b < 100 := by
  obtain ⟨tens, ones⟩ : b.toNat / 16 ≤ 9 ∧ b.toNat % 16 ≤ 9 := by simpa [validBcd] using valid
  rw [bcdValue]
  omega

/-- Adding 100 to a negative difference of two numbers below 100 and a borrow is taking it modulo 100. -/
theorem borrow_eq_emod {diff : Int} (low : -100 ≤ diff) (high : diff < 100) :
    ((if diff ≥ 0 then diff else diff + 100).toNat : Int) = diff % 100 := by
  split <;> omega

/-- Settles O28: the difference modulo 100, packed; that the bytes are BCD bounds the difference. -/
theorem subDecimalIsTheDecimalDifference : Obligations.SubDecimalIsTheDecimalDifference := by
  intro a m cin validA validM res diff
  have ha := bcdValue_lt validA
  have hm := bcdValue_lt validM
  have hcin := cin.toNat_lt
  have value := borrow_eq_emod (diff := diff) (by omega) (by omega)
  have below : (if diff ≥ 0 then diff else diff + 100).toNat < 100 := by omega
  exact ⟨validBcd_toBcd below, (congrArg Nat.cast (bcdValue_toBcd below)).trans value, rfl, rfl, msb_eq_bit_seven _,
    beq_zero_eq_decide_toNat _⟩

/-! ## The lines of ADC, ADD and SBC (R225 to R227) -/

theorem addToA_does {α : Type} {l : Line α} {s : State} {cin : Bool} {m : Byte} (h : l.means s (addToA cin m l.bytes.length s)) :
    l.does s fun t => ArithmeticOutcome (addBinary s.a m cin) (addDecimal s.a m cin) m s t := by
  obtain ⟨outcome, hpc, -⟩ := addToA_next (s := s) (cin := cin) (m := m) (len := l.bytes.length) rfl
  exact h.does hpc outcome

theorem subFromA_does {α : Type} {l : Line α} {s : State} {m : Byte} (h : l.means s (subFromA m l.bytes.length s)) :
    l.does s fun t => ArithmeticOutcome (subBinary s.a m (s.flag .c)) (subDecimal s.a m (s.flag .c)) m s t := by
  obtain ⟨outcome, hpc, -⟩ := subFromA_next (s := s) (m := m) (len := l.bytes.length) rfl
  exact h.does hpc outcome

theorem linesAdc_means (n : Byte) (nn : Word) (s : State) :
    ∀ l ∈ linesAdc n nn s, l.means s (addToA (s.flag .c) l.operand l.bytes.length s) := by
  simp only [linesAdc, List.forall_mem_cons]
  refine ⟨?imm, ?zp, ?zpX, ?abs, ?absX, ?absY, ?ind, ?indX, List.forall_mem_nil _⟩ <;> exact ⟨⟨rfl, rfl, rfl⟩, rfl⟩

theorem linesAdd_means (n : Byte) (nn : Word) (s : State) :
    ∀ l ∈ linesAdd n nn s, l.means s (addToA false l.operand l.bytes.length s) := by
  simp only [linesAdd, List.forall_mem_cons]
  refine ⟨?imm, ?zp, ?zpX, List.forall_mem_nil _⟩ <;> exact ⟨⟨rfl, rfl, rfl⟩, rfl⟩

theorem linesSbc_means (n : Byte) (nn : Word) (s : State) :
    ∀ l ∈ linesSbc n nn s, l.means s (subFromA l.operand l.bytes.length s) := by
  simp only [linesSbc, List.forall_mem_cons]
  refine ⟨?imm, ?zp, ?zpX, ?abs, ?absX, ?absY, ?ind, ?indX, List.forall_mem_nil _⟩ <;> exact ⟨⟨rfl, rfl, rfl⟩, rfl⟩

/-- Settles O29: each line is `addToA` or `subFromA` of its operand, ADD with the carry 0. -/
theorem addAndSubtractForms : Obligations.AddAndSubtractForms := fun n nn s =>
  ⟨fun l hl => addToA_does (linesAdc_means n nn s l hl), fun l hl => addToA_does (linesAdd_means n nn s l hl),
    fun l hl => subFromA_does (linesSbc_means n nn s l hl)⟩

/-! ## Multiply and accumulate (R281) -/

theorem accumulate_toInt (w : Word) (a y : Byte) :
    (accumulate w a y).w.toInt = max (-32768) (min 32767 (w.toInt + a.toInt * y.toInt)) := by
  unfold accumulate
  generalize w.toInt + a.toInt * y.toInt = sum
  dsimp only
  split
  case isTrue above =>
    have top : (0x7FFF : Word).toInt = 32767 := by decide
    rw [top]
    omega
  case isFalse notAbove =>
    split
    case isTrue below =>
      have bottom : (0x8000 : Word).toInt = -32768 := by decide
      rw [bottom]
      omega
    case isFalse notBelow =>
      rw [BitVec.toInt_ofInt_eq_self (by decide) (by omega) (by omega)]
      omega

theorem accumulate_v (w : Word) (a y : Byte) : (accumulate w a y).v =
    decide (w.toInt + a.toInt * y.toInt > 32767 ∨ w.toInt + a.toInt * y.toInt < -32768) := by
  unfold accumulate
  generalize w.toInt + a.toInt * y.toInt = sum
  dsimp only
  split
  case isTrue above => simp [above]
  case isFalse notAbove => split <;> simp_all

/-- Settles O37: the sum and whether it was clamped are `accumulate`'s; the frame is `mpa_answers`. -/
theorem multiplyAccumulateSaturates : Obligations.MultiplyAccumulateSaturates := by
  intro s
  obtain ⟨t, meaning, -, -, frame⟩ := mpa_answers s
  obtain rfl := Host.Outcome.next.inj meaning
  refine Line.means.does ⟨⟨rfl, rfl, rfl⟩, meaning⟩ rfl ⟨accumulate_toInt _ _ _, ?overflow, ?sign, ?frame⟩
  case overflow => simp [accumulate_v]
  case sign => simp [BitVec.msb_eq_getLsbD_last]
  case frame => exact frame.mono (fun _ h => h) (by simp) (fun _ h => h)

/-! ## Round (R282) -/

theorem toInt_eq_hiByte_loByte (w : Word) : w.toInt = 256 * (hiByte w).toInt + (loByte w).toNat := by
  have hw := w.isLt
  rw [BitVec.toInt_eq_toNat_cond, BitVec.toInt_eq_toNat_cond, hiByte_toNat, loByte_toNat]
  split <;> split <;> omega

/-- Half is added exactly where the low byte has its most significant bit. -/
theorem rounded_eq (w : Word) : (w.toInt + 128) / 256 = (hiByte w).toInt + ((loByte w).getLsbD 7).toNat := by
  have hl := (loByte w).isLt
  rw [toInt_eq_hiByte_loByte, ← msb_eq_bit_seven, BitVec.msb_eq_decide]
  cases half : decide (2 ^ (8 - 1) ≤ (loByte w).toNat) <;> simp at half ⊢ <;> omega

theorem rndOverflows_eq (w : Word) : rndOverflows w = decide ((w.toInt + 128) / 256 > 127) := by
  have top : (hiByte w == 0x7F) = decide ((hiByte w).toInt = 127) := by
    rw [Bool.beq_eq_decide_eq, decide_eq_decide, ← BitVec.toInt_inj]
    rfl
  have bound : (hiByte w).toInt < 2 ^ (8 - 1) := BitVec.toInt_lt
  rw [rndOverflows, rounded_eq, top, Bool.eq_iff_iff]
  cases (loByte w).getLsbD 7 <;> simp <;> omega

theorem byte_add_one_toInt {b : Byte} (h : b.toInt < 127) : (b + 1).toInt = b.toInt + 1 := by
  have hb := b.isLt
  rw [BitVec.toInt_eq_toNat_cond] at h
  rw [BitVec.toInt_eq_toNat_cond, BitVec.toInt_eq_toNat_cond, byte_add_one_toNat]
  split at h <;> split <;> omega

theorem rndByte_toInt {w : Word} (fits : (w.toInt + 128) / 256 ≤ 127) : (rndByte w).toInt = (w.toInt + 128) / 256 := by
  rw [rounded_eq] at fits ⊢
  unfold rndByte
  cases half : (loByte w).getLsbD 7 with
  | false => simp
  | true =>
    rw [half, Bool.toNat_true] at fits
    exact byte_add_one_toInt (by omega)

/-- Where the rounded number is above 127, A is 0x7F and V is 1; Y is a draw. -/
theorem rnd_of_overflow {s t : State} (above : (s.w.toInt + 128) / 256 > 127) (h : execRnd s = .next t) :
    t.a = 0x7F ∧ t.flag .v = true ∧ t.flag .n = false := by
  rw [execRnd, if_pos (by rw [rndOverflows_eq, decide_eq_true above])] at h
  obtain rfl := Host.Outcome.next.inj h
  exact ⟨rfl, by simp, by simp⟩

/-- Where it fits, A is the rounded byte, V is 0 and Y stays. -/
theorem rnd_of_fits {s t : State} (fits : ¬ (s.w.toInt + 128) / 256 > 127) (h : execRnd s = .next t) :
    t.a = rndByte s.w ∧ t.flag .v = false ∧ t.flag .n = (rndByte s.w).getLsbD 7 ∧ t.y = s.y := by
  rw [execRnd, if_neg (by rw [rndOverflows_eq, decide_eq_true_eq]; exact fits)] at h
  obtain rfl := Host.Outcome.next.inj h
  exact ⟨rfl, by simp, by simp [msb_eq_bit_seven], rfl⟩

/-- Settles O38: RND overflows exactly where the rounded number is above 127; else the byte is that number. -/
theorem roundAddsHalf : Obligations.RoundAddsHalf := by
  intro s
  obtain ⟨t, meaning, -, pc, wide⟩ := rnd_answers s
  have frame : Frame [.a, .y] [.n, .v] [] s t := wide.mono (fun _ h => h) (by simp) (fun _ h => h)
  refine Line.means.does ⟨⟨rfl, rfl, rfl⟩, meaning⟩ pc ?_
  by_cases above : (s.w.toInt + 128) / 256 > 127
  case pos =>
    obtain ⟨a, v, n⟩ := rnd_of_overflow above meaning
    have top : (0x7F : Byte).toInt = 127 := by decide
    rw [a, top, v, n]
    exact ⟨by omega, (decide_eq_true above).symm, by decide, fun fits => absurd above (not_lt.2 fits), frame⟩
  case neg =>
    obtain ⟨a, v, n, y⟩ := rnd_of_fits above meaning
    rw [a, rndByte_toInt (not_lt.1 above), v, n]
    exact ⟨by omega, (decide_eq_false above).symm, rfl, fun _ => y, frame⟩

end Sys2Proof.Machine

/-! SUPPORT. Effective addresses as numbers, masked bits, branches and jumps line by line, and each push with its pull
(40_addressing_modes.md, 45_bit_ops.md, 46_branch_jump.md, 47_stack.md). -/

namespace Sys2Proof.Machine

/-! ## Effective addresses (R146 to R153) -/

theorem zeroPage_toNat (n : Byte) : (joinBytes 0x00 n).toNat = n.toNat := by
  rw [joinBytes_toNat]
  exact Nat.zero_add _

theorem add_index_toNat (base : Word) (idx : Byte) : (base + idx.setWidth 16).toNat = (base.toNat + idx.toNat) % 65536 := by
  rw [BitVec.toNat_add, BitVec.toNat_setWidth_of_le (by decide)]

/-- Settles O55: a zero page sum stays in a byte, and the second byte of a pointer is found by such a sum. -/
theorem effectiveAddresses : Obligations.EffectiveAddresses := by
  intro n nn s
  have sum (m k : Byte) : (joinBytes 0x00 (m + k)).toNat = (m.toNat + k.toNat) % 256 := by rw [zeroPage_toNat, BitVec.toNat_add]
  have pointer : (eaInd n s).toNat = (s.mem.read n.toNat).toNat + 256 * (s.mem.read ((n.toNat + 1) % 256)).toNat := by
    have high : (eaZp (n + 1)).toNat = (n.toNat + 1) % 256 := sum n 1
    have low : (eaZp n).toNat = n.toNat := zeroPage_toNat n
    rw [eaInd, joinBytes_toNat, State.read, State.read, high, low, Nat.add_comm]
  exact ⟨zeroPage_toNat n, sum n s.x, sum n s.y, add_index_toNat nn s.x, add_index_toNat nn s.y, pointer, add_index_toNat _ s.x⟩

/-! ## The masked bits of a byte (R302, R303) -/

/-- RBA and SBA: one byte written, and A. -/
theorem write_clobberA_does {α : Type} {l : Line α} {s : State} {ea : Word} {v : Byte}
    (h : l.means s (.next (((s.write ea v).clobberA).advance l.bytes.length))) :
    l.does s fun t => Stored ea v s t ∧ Frame [.a] [] [ea] s t := by
  obtain ⟨stored, frame⟩ := write_spec s ea v
  exact h.does rfl ⟨stored.of_read rfl, (frame.trans (clobberA_spec _)).advance _⟩

/-- Settles O41: the byte written has the masked bits cleared or set. -/
theorem maskedBitsAreSetAndReset : Obligations.MaskedBitsAreSetAndReset := by
  intro mask nn s
  refine ⟨(write_clobberA_does (v := s.read nn &&& ~~~mask) ⟨⟨rfl, rfl, rfl⟩, rfl⟩).imp ?rba,
    (write_clobberA_does (v := s.read nn ||| mask) ⟨⟨rfl, rfl, rfl⟩, rfl⟩).imp ?sba⟩ <;>
  rintro t ⟨stored, frame⟩ <;> refine ⟨fun ram j => ?_, frame⟩ <;> rw [stored ram]
  case rba => exact getLsbD_clear_mask _ _ j
  case sba => exact getLsbD_set_mask _ _ j

/-! ## A line that writes PC alone -/

theorem setPc_jumps {α : Type} {l : Line α} {s : State} {target : Word} (h : l.means s (.next (s.setPc target))) :
    l.jumps s target fun t => Frame [] [] [] s t :=
  h.jumps rfl (Frame.refl_of (fun r => by cases r <;> rfl) rfl rfl ⟨rfl, rfl, rfl, rfl⟩)

/-! ## Branches (R304 to R307, R320 to R329) -/

/-- A line whose meaning is a branch goes to its target if the condition of the rule holds, and changes nothing else. -/
theorem branchIf_jumps {α : Type} {l : Line α} {s : State} {taken : Bool} {r : Byte} {P : Prop} [Decidable P]
    (h : l.means s (branchIf taken l.bytes.length r s)) (condition : taken = true ↔ P) :
    l.jumps s (if P then l.after s + r.signExtend 16 else l.after s) fun t => Frame [] [] [] s t := by
  obtain ⟨pc, -, frame⟩ := branchIf_next (s := s) (taken := taken) (len := l.bytes.length) (r := r) rfl
  refine h.jumps ?_ frame
  rw [pc]
  simp only [condition]
  rfl

def bbrLine (k : Fin 8) (n r : Byte) (s : State) : Line Unit :=
  ⟨bbrInstr k n r, [bitOpcode 0x0F k, n, r], 5 + branchCycles (!(s.read (eaZp n)).getLsbD k) 3 r s, busBitBranch n s, ()⟩

def bbsLine (k : Fin 8) (n r : Byte) (s : State) : Line Unit :=
  ⟨bbsInstr k n r, [bitOpcode 0x8F k, n, r], 5 + branchCycles ((s.read (eaZp n)).getLsbD k) 3 r s, busBitBranch n s, ()⟩

theorem bbrLine_means (k : Fin 8) (n r : Byte) (s : State) : (bbrLine k n r s).means s (branchIf (takesBbr k n s) 3 r s) := by
  fin_cases k <;> exact ⟨⟨rfl, rfl, rfl⟩, rfl⟩

theorem bbsLine_means (k : Fin 8) (n r : Byte) (s : State) : (bbsLine k n r s).means s (branchIf (takesBbs k n s) 3 r s) := by
  fin_cases k <;> exact ⟨⟨rfl, rfl, rfl⟩, rfl⟩

/-- Settles O42: the eight operation codes and arms of either branch differ by the bit number alone. -/
theorem bitBranchesTestZeroPageBits : Obligations.BitBranchesTestZeroPageBits := by
  intro k n r s
  refine ⟨branchIf_jumps (bbrLine_means k n r s) ?bbr, branchIf_jumps (bbsLine_means k n r s) ?bbs⟩
  case bbr => simp [takesBbr]
  case bbs => rfl

/-- Some masked bit of the byte is 1. -/
theorem and_bne_zero_iff (b mask : Byte) :
    ((b &&& mask) != 0) = true ↔ ∃ j : Fin 8, mask.getLsbD j = true ∧ b.getLsbD j = true := by
  rw [bne, and_beq_zero]
  simp [and_comm]

theorem takesBar_iff {nn : Word} {mask : Byte} {s : State} :
    takesBar nn mask s = true ↔ ∃ j : Fin 8, mask.getLsbD j = true ∧ (s.read nn).getLsbD j = false := by
  rw [takesBar, and_bne_zero_iff]
  simp

/-- Settles O43: either branch tests whether the AND with the mask is 0, BAR's after the complement. -/
theorem maskBranchesTestAnyMaskedBit : Obligations.MaskBranchesTestAnyMaskedBit := by
  intro nn mask r s
  refine ⟨branchIf_jumps ⟨⟨rfl, rfl, rfl⟩, ?bar⟩ takesBar_iff,
    branchIf_jumps ⟨⟨rfl, rfl, rfl⟩, ?bas⟩ (and_bne_zero_iff _ _)⟩
  all_goals rfl

theorem conditionalBranches_means (r : Byte) (s : State) :
    ∀ l ∈ conditionalBranches r s, l.means s (branchIf l.operand 2 r s) ∧ l.bytes.length = 2 := by
  simp only [conditionalBranches, List.forall_mem_cons]
  refine ⟨?bcc, ?bcs, ?beq, ?bne, ?bmi, ?bpl, ?bvc, ?bvs, List.forall_mem_nil _⟩ <;> exact ⟨⟨⟨rfl, rfl, rfl⟩, rfl⟩, rfl⟩

/-- Settles O44: each line branches on its operand, and BRA is the branch that is always taken. -/
theorem relativeBranches : Obligations.RelativeBranches := by
  intro r s
  refine ⟨fun l hl => ?_, setPc_jumps ⟨⟨rfl, rfl, rfl⟩, rfl⟩⟩
  obtain ⟨means, length⟩ := conditionalBranches_means r s l hl
  have after : l.after s = s.pc + 2 := by rw [Line.after, length]; rfl
  rw [← length] at means
  exact after ▸ branchIf_jumps means Iff.rfl

/-! ## Jumps (R330 to R332) -/

/-- Settles O45: the three targets are the operand and two words of memory. -/
theorem jumpsLoadThePc : Obligations.JumpsLoadThePc := fun _ _ =>
  ⟨setPc_jumps ⟨⟨rfl, rfl, rfl⟩, rfl⟩, setPc_jumps ⟨⟨rfl, rfl, rfl⟩, rfl⟩, setPc_jumps ⟨⟨rfl, rfl, rfl⟩, rfl⟩⟩

/-! ## A push and its pull -/

/-- The two bytes a word pull reads, from a state S two lower that holds a word pushed. -/
theorem pulled_word {s t : State} {v : Word} (ram : ∀ addr ∈ [stackAddr s.sp, stackAddr (s.sp - 1)], s.isRom addr = false)
    (high : Stored (stackAddr s.sp) (hiByte v) s t) (low : Stored (stackAddr (s.sp - 1)) (loByte v) s t) (sp : t.sp = s.sp - 2) :
    t.read (stackAddr (t.sp + 2)) = hiByte v ∧ t.read (stackAddr (t.sp + 1)) = loByte v ∧ t.sp + 2 = s.sp := by
  have second : t.sp + 2 = s.sp := by rw [sp]; bv_omega
  have first : t.sp + 1 = s.sp - 1 := by rw [sp]; bv_omega
  rw [second, first]
  exact ⟨high (ram _ (by simp)), low (ram _ (by simp)), rfl⟩

/-- RTS from a state a call has left: back at the address pushed, with every register and flag as before the call. -/
theorem rts_undoes_call {s t : State} {ret : Word} (ram : ∀ addr ∈ [stackAddr s.sp, stackAddr (s.sp - 1)], s.isRom addr = false)
    (high : Stored (stackAddr s.sp) (hiByte ret) s t) (low : Stored (stackAddr (s.sp - 1)) (loByte ret) s t) (sp : t.sp = s.sp - 2)
    (call : Frame [.s] [] [stackAddr s.sp, stackAddr (s.sp - 1)] s t) :
    Completes .rts t fun u => u.pc = ret ∧ Frame [] [] [stackAddr s.sp, stackAddr (s.sp - 1)] s u := by
  obtain ⟨-, -, -, u, meaning, pc, raised, back⟩ := callsAndReturn 0 0 t
  obtain ⟨second, first, restored⟩ := pulled_word ram high low sp
  rw [second, first, joinBytes_hiByte_loByte] at pc
  have same : u.sp = s.sp := raised.trans restored
  exact ⟨u, meaning, pc, (call.trans back).of_regs (by simp [State.reg, same])⟩

/-- Settles O47: both calls push the address of the next instruction, and RTS goes where it was pushed from. -/
theorem returnUndoesCall : Obligations.ReturnUndoesCall := by
  intro k nn s ram
  obtain ⟨⟨-, t, jsr, -, high, low, sp, call⟩, ⟨-, t', jsb, -, high', low', sp', call'⟩, -⟩ := callsAndReturn k nn s
  exact ⟨⟨t, jsr, rts_undoes_call ram high low sp call⟩, ⟨t', jsb, rts_undoes_call ram high' low' sp' call'⟩⟩

/-- The six flags PLP loads are those PHP pushed; the other two stay. -/
theorem plp_undoes_php {s : State} (ram : s.isRom (stackAddr s.sp) = false) :
    Completes .php s fun t => Completes .plp t fun u => u.p = s.p ∧ Frame [] [] [stackAddr s.sp] s u := by
  obtain ⟨-, ⟨-, t, php, -, stored, sp, push⟩, -⟩ := pushesStoreAndDecrementS s
  obtain ⟨-, -, -, ⟨-, u, plp, -, loaded, raised, pull⟩, -⟩ := pullsIncrementSAndLoad t
  have top : t.sp + 1 = s.sp := by rw [sp]; bv_omega
  rw [top, stored ram] at loaded
  have same : u.sp = s.sp := raised.trans top
  have frame := ((push.trans pull).of_regs (by simp [State.reg, same])).of_flags loaded
  exact ⟨t, php, u, plp, frame.p_eq, frame⟩

/-- PUL reads Y, X, A at the addresses at which PSH stored them. -/
theorem pul_undoes_psh {s : State}
    (ram : ∀ addr ∈ [stackAddr s.sp, stackAddr (s.sp - 1), stackAddr (s.sp - 2)], s.isRom addr = false) :
    Completes .psh s fun t => Completes .pul t fun u =>
      u.p = s.p ∧ Frame [] [] [stackAddr s.sp, stackAddr (s.sp - 1), stackAddr (s.sp - 2)] s u := by
  obtain ⟨-, -, -, -, -, t, psh, -, storedA, storedX, storedY, sp, push⟩ := pushesStoreAndDecrementS s
  obtain ⟨-, -, -, -, -, u, pul, -, y, x, a, raised, pull⟩ := pullsIncrementSAndLoad t
  have first : t.sp + 1 = s.sp - 2 := by rw [sp]; bv_omega
  have second : t.sp + 2 = s.sp - 1 := by rw [sp]; bv_omega
  have third : t.sp + 3 = s.sp := by rw [sp]; bv_omega
  rw [first, storedY (ram _ (by simp))] at y
  rw [second, storedX (ram _ (by simp))] at x
  rw [third, storedA (ram _ (by simp))] at a
  have same : u.sp = s.sp := raised.trans third
  have frame := (push.trans pull).of_regs (by simp [State.reg, same, a, x, y])
  exact ⟨t, psh, u, pul, frame.p_eq, frame⟩

theorem plw_undoes_phw {s : State} (ram : ∀ addr ∈ [stackAddr s.sp, stackAddr (s.sp - 1)], s.isRom addr = false) :
    Completes .phw s fun t => Completes .plw t fun u => u.p = s.p ∧ Frame [] [] [stackAddr s.sp, stackAddr (s.sp - 1)] s u := by
  obtain ⟨-, -, -, ⟨-, t, phw, -, high, low, sp, push⟩, -⟩ := movesOfW s
  obtain ⟨-, -, -, -, -, u, plw, -, loadedLow, loadedHigh, raised, pull⟩ := movesOfW t
  obtain ⟨second, first, restored⟩ := pulled_word ram high low sp
  have w : u.w = s.w := by
    rw [← joinBytes_hiByte_loByte u.w, loadedHigh, loadedLow, second, first, joinBytes_hiByte_loByte]
  have same : u.sp = s.sp := raised.trans restored
  have frame := (push.trans pull).of_regs (by simp [State.reg, same, w])
  exact ⟨t, phw, u, plw, frame.p_eq, frame⟩

theorem pli_undoes_phi {s : State} (ram : ∀ addr ∈ [stackAddr s.sp, stackAddr (s.sp - 1)], s.isRom addr = false) :
    Completes .phi s fun t => Completes .pli t fun u => u.p = s.p ∧ Frame [] [] [stackAddr s.sp, stackAddr (s.sp - 1)] s u := by
  obtain ⟨⟨-, t, phi, -, high, low, sp, push⟩, -⟩ := stackingOfI s
  obtain ⟨-, ⟨-, u, pli, -, loaded, raised, pull⟩, -⟩ := stackingOfI t
  obtain ⟨second, first, restored⟩ := pulled_word ram high low sp
  rw [second, first, joinBytes_hiByte_loByte] at loaded
  have same : u.sp = s.sp := raised.trans restored
  have frame := (push.trans pull).of_regs (by simp [State.reg, same, loaded])
  exact ⟨t, phi, u, pli, frame.p_eq, frame⟩

/-- Settles O50: each pull reads at the addresses of its push what that push stored. -/
theorem pullsUndoPushes : Obligations.PullsUndoPushes := fun _ =>
  ⟨plp_undoes_php, pul_undoes_psh, plw_undoes_phw, pli_undoes_phi⟩

end Sys2Proof.Machine

/-! SUPPORT. The cycle count of every instruction against its bus accesses (20_memory.md section 6, R481). -/

namespace Sys2Proof.Machine

/-! ## The cycles a count adds -/

theorem crossCycle_le (base : Word) (idx : Byte) : crossCycle base idx ≤ 1 := by
  unfold crossCycle
  split <;> decide

theorem decimalCycle_le (s : State) : decimalCycle s ≤ 1 := by
  unfold decimalCycle
  split <;> decide

theorem pageCycle_le (next : Word) (r : Byte) : pageCycle next r ≤ 1 := by
  unfold pageCycle
  split <;> decide

theorem branchCycles_le (taken : Bool) (len : Nat) (r : Byte) (s : State) : branchCycles taken len r s ≤ 2 := by
  have page := pageCycle_le (s.pc + BitVec.ofNat 16 len) r
  unfold branchCycles
  split <;> omega

/-! ## The accesses of the builders whose length varies -/

theorem busReadAbsIdx_length (nn : Word) (idx : Byte) (s : State) : (busReadAbsIdx nn idx s).length + 1 = 4 + crossCycle nn idx := by
  unfold busReadAbsIdx crossCycle
  split <;> rfl

theorem busReadIndX_length (n : Byte) (s : State) : (busReadIndX n s).length + 1 = 5 + crossCycle (eaInd n s) s.x := by
  unfold busReadIndX crossCycle
  split <;> rfl

theorem busBranch_length (taken : Bool) (r : Byte) (s : State) : (busBranch taken r s).length + 1 = 2 + branchCycles taken 2 r s := by
  cases taken with
  | false => rfl
  | true =>
    have next : s.pc + BitVec.ofNat 16 2 = s.pc + 2 := rfl
    by_cases same : samePage (s.pc + 2) r <;> simp [busBranch, branchCycles, pageCycle, next, same]

/-! ## Every instruction -/

/-- What the claim says of one instruction. -/
def Timed (i : Instr) (s : State) : Prop :=
  (i.mnemonic ∉ bitBranches →
    (busSequence i s).length + 1 + (if i.mnemonic ∈ decimalMnemonics then decimalCycle s else 0) = cycleCount i s) ∧
  (busSequence i s).length + 1 ≤ cycleCount i s ∧ 2 ≤ cycleCount i s ∧ cycleCount i s ≤ 9

section

variable {i : Instr} {s : State} {base extra : Nat}

/-- A count that does not depend on the state. -/
theorem Timed.of_constant (accesses : (busSequence i s).length + 1 = cycleCount i s)
    (range : (Nat.ble 2 (cycleCount i s) && Nat.ble (cycleCount i s) 9) = true)
    (plain : i.mnemonic ∉ decimalMnemonics := by simp [Instr.mnemonic, decimalMnemonics]) : Timed i s := by
  obtain ⟨low, high⟩ : 2 ≤ cycleCount i s ∧ cycleCount i s ≤ 9 := by simpa using range
  exact ⟨fun _ => by rw [if_neg plain]; exact accesses, accesses.le, low, high⟩

/-- A count with the cycles of a page boundary or of a taken branch, which the bus sequence lists. -/
theorem Timed.of_listed (count : cycleCount i s = base + extra) (accesses : (busSequence i s).length + 1 = base + extra)
    (few : extra ≤ 2) (range : 2 ≤ base ∧ base ≤ 7 := by decide)
    (plain : i.mnemonic ∉ decimalMnemonics := by simp [Instr.mnemonic, decimalMnemonics]) : Timed i s := by
  rw [Timed, accesses, count, if_neg plain]
  omega

/-- A count with the decimal cycle, which the bus sequence does not list (log 29). -/
theorem Timed.of_decimal (count : cycleCount i s = base + extra + decimalCycle s)
    (accesses : (busSequence i s).length + 1 = base + extra) (few : extra ≤ 1) (range : 2 ≤ base ∧ base ≤ 7 := by decide)
    (decimal : i.mnemonic ∈ decimalMnemonics := by simp [Instr.mnemonic, decimalMnemonics]) : Timed i s := by
  have cycle := decimalCycle_le s
  rw [Timed, accesses, count, if_pos decimal]
  omega

/-- A count with the cycles of a taken bit-test branch, which the bus sequence does not list (log 29). -/
theorem Timed.of_bitBranch (count : cycleCount i s = base + extra) (accesses : (busSequence i s).length + 1 = base)
    (few : extra ≤ 2) (range : 2 ≤ base ∧ base ≤ 7 := by decide)
    (bitBranch : i.mnemonic ∈ bitBranches := by simp [Instr.mnemonic, bitBranches]) : Timed i s := by
  rw [Timed, accesses, count]
  exact ⟨absurd bitBranch, by omega⟩

end

/-- BRA is a taken branch: its 3 cycles are the 2 of a branch and the one of taking it. -/
theorem cycleCount_bra (r : Byte) (s : State) : cycleCount (.bra r) s = 2 + branchCycles true 2 r s := by
  show 3 + pageCycle (s.pc + 2) r = 2 + (1 + pageCycle (s.pc + 2) r)
  omega

/-- Settles O56: the instructions whose count varies with the state, by what it varies with; every other count is a number. -/
theorem busAccessesCountTheCycles : Obligations.BusAccessesCountTheCycles := by
  intro i s
  show Timed i s
  cases i with
  | adcImm | adcZp | adcZpX | adcAbs | adcInd | addImm | addZp | addZpX | sbcImm | sbcZp | sbcZpX | sbcAbs | sbcInd =>
    exact .of_decimal (extra := 0) rfl rfl (Nat.zero_le _)
  | adcAbsX | adcAbsY | sbcAbsX | sbcAbsY => exact .of_decimal rfl (busReadAbsIdx_length ..) (crossCycle_le ..)
  | adcIndX | sbcIndX => exact .of_decimal rfl (busReadIndX_length ..) (crossCycle_le ..)
  | ldaAbsX | ldaAbsY | ldxAbsY | ldyAbsX | andAbsX | andAbsY | oraAbsX | oraAbsY | eorAbsX | eorAbsY | cmpAbsX | cmpAbsY =>
    exact .of_listed rfl (busReadAbsIdx_length ..) (Nat.le_succ_of_le (crossCycle_le ..))
  | ldaIndX | andIndX | oraIndX | eorIndX | cmpIndX =>
    exact .of_listed rfl (busReadIndX_length ..) (Nat.le_succ_of_le (crossCycle_le ..))
  | bcc | bcs | beq | bne | bmi | bpl | bvc | bvs => exact .of_listed rfl (busBranch_length ..) (branchCycles_le ..)
  | bra r => exact .of_listed (cycleCount_bra r s) (busBranch_length true r s) (branchCycles_le ..)
  | bbr0 | bbr1 | bbr2 | bbr3 | bbr4 | bbr5 | bbr6 | bbr7 | bbs0 | bbs1 | bbs2 | bbs3 | bbs4 | bbs5 | bbs6 | bbs7 | bar | bas =>
    exact .of_bitBranch rfl rfl (branchCycles_le ..)
  | _ => exact .of_constant rfl rfl

end Sys2Proof.Machine
